-- ==== Sys2Proof/Word.lean ====
section
/-! DEFINITION. The word types of the core: one name per width that `spec/10_state.md` rule R20 and
`spec/30_encoding.md` rule R80 give (widths are decisions D2, D3, D16, D23 of the spec). -/

namespace Sys2Proof

/-- The level of an input line, and the one-bit quantities of R20 (1 is `true`). -/
abbrev Level := Bool

/-- One STIM8 stimulus byte (R95). -/
abbrev Byte := BitVec 8

/-- The word handed to the shift-register driver (WORD16, R89), a glyph pattern, a select word. -/
abbrev Word16 := BitVec 16

/-- `acc`, the magnitude accumulator (R23, ACC_W = 17), and the weights as R50 stores them. -/
abbrev Magnitude := BitVec 17

/-- `bit_index` (R22, IDX_W = 5). -/
abbrev BitIndex := BitVec 5

/-- `bits[0..23]` (R24): `bits[i]` is bit `i`. -/
abbrev FrameBits := BitVec 24

/-- One element of the display record: a glyph index in 4 bits (R29). -/
abbrev GlyphIndex := BitVec 4

/-- `rec.d[0..5]` (R29, R87). -/
abbrev Record := Vector GlyphIndex 6

/-- `cyc`, the refresh cycles completed in the scan pass (R32). -/
abbrev CycleCount := BitVec 9

/-- `pos`, a digit position (R32). -/
abbrev Position := BitVec 3

end Sys2Proof
end

