-- ==== Sys2Proof/Config.lean ====
section
/-! DEFINITION. What the spec leaves to an implementation: the types of the parameters of
`spec/00_scope.md` rule R7 (their values stand in `Machine/Tables.lean` and are carried by the state
as its `board`), and the free values, which have no body, so that no proof can see what they are. -/

namespace Sys2Proof

/-- SIMUL_ORDER (R7, R111 corner case d): which event comes first when both lines rise in one
sample. -/
inductive SimulOrder where
  | gateFirst
  | clockFirst
deriving DecidableEq, Repr, Inhabited

/-- UNIT_SRC (R7, R153): where the scanner reads the unit. -/
inductive UnitSrc where
  /-- The unit stored with the record at decode: the value the spec takes (D21). -/
  | latched
  /-- `bits[23]` at the moment of the SCAN_STEP: the alternative the spec names. -/
  | live
deriving DecidableEq, Repr

/-- The parameters of R7 that are fixed by how a unit is built (wiring and table instance). No
operation writes them (R35), and a RESET keeps them. A claim for every state is a claim for every
instance of them. -/
structure Board where
  /-- `GLYPH[0..12]` (R52, R88, R90). -/
  glyph : Vector Word16 13
  /-- `ANODE[0..5]` (R52, R91). -/
  anode : Vector Word16 6
  /-- DP_POS_MM (R153). -/
  dpPosMm : Position
  /-- DP_POS_INCH (R153). -/
  dpPosInch : Position
  /-- UNIT_SRC (R153). -/
  unitSrc : UnitSrc
deriving DecidableEq, Repr

/-- FREE VALUE (assumption 7): the order of two edges seen in one sample, drawn afresh at every such
sample. SIMUL_ORDER is an open parameter and a model admits both orders (R111, D6, U5). -/
opaque Config.simulOrder : Nat → SimulOrder

/-- FREE VALUE (assumption 8): what the driver's outputs show between a RESET and the first word
after it (R36, R39, U6: any value). -/
opaque Config.latchAtPowerOn : Nat → Word16

end Sys2Proof
end

