-- ==== Sys2Proof/Machine/Tables.lean ====
section
/-! DEFINITION. The constants the source fixes (`spec/00_scope.md` rule R6), the weight table
(`spec/30_encoding.md` rule R82), the glyph index numbers (R88) and the default instance of the
parameters (R7, R90, R91, R153). -/

namespace Sys2Proof.Machine

/-- FRAME_BITS (R6). -/
def frameBits : Nat := 24

/-- SIGN_POS (R6). -/
def signPos : Nat := 20

/-- UNIT_POS (R6). -/
def unitPos : Nat := 23

/-- CORR_POS (R6). -/
def corrPos : Nat := 0

/-- NPOS (R6). -/
def nPos : Nat := 6

/-- N_CYCLES (R6). -/
def nCycles : Nat := 431

/-- IDX_DP (R88, D16). -/
def idxDp : GlyphIndex := 10#4

/-- IDX_MINUS (R88, D16). -/
def idxMinus : GlyphIndex := 11#4

/-- IDX_BLANK (R88, D16). -/
def idxBlank : GlyphIndex := 12#4

/-- The weight table W (R82), indexed by position. -/
def weights : Vector Magnitude 24 :=
  #v[1, 2, 4, 8, 16, 32, 64, 128, 256, 512, 1024, 2048, 4096, 8192, 16384, 32768,
     0, 0, 0, 0, 1, 0, 0, 1]

/-- The default GLYPH instance, active high (R90; from general knowledge, G1). -/
def defaultGlyphs : Vector Word16 13 :=
  #v[0x003F, 0x0006, 0x005B, 0x004F, 0x0066, 0x006D, 0x007D, 0x0007, 0x007F, 0x006F,
     0x0080, 0x0040, 0x0000]

/-- The default ANODE instance (R91): `1 << (8 + p)`. -/
def defaultAnodes : Vector Word16 6 :=
  #v[0x0100, 0x0200, 0x0400, 0x0800, 0x1000, 0x2000]

/-- The default value of every parameter (R7): the point after the third digit in mm and after the
first in inch (D20), the unit latched with the record (D21). -/
def defaultBoard : Board where
  glyph := defaultGlyphs
  anode := defaultAnodes
  dpPosMm := 3#3
  dpPosInch := 1#3
  unitSrc := .latched

end Sys2Proof.Machine
end

