-- ==== Sys2Proof/Syntax.lean ====
section
/-! DEFINITION. The operations of the core as syntax: one constructor of `Instr` per row of
`spec/opcode_table.json` (R2 reads "instruction" as "operation"; R95 lists the five rows), and the
pseudo-operations of `spec/30_encoding.md` rule R99, which only abbreviate sequences of `Instr`. -/

namespace Sys2Proof

/-- The operations a stimulus byte can name (R95). The operands are single line levels, so every
value of this type is meaningful. -/
inductive Instr where
  /-- GATE: the GATE_EDGE operation of the capture agent (R112). -/
  | gate
  /-- CLK d: CLOCK_EDGE with the data-line level `d` (R113 to R115). -/
  | clk (d : Level)
  /-- SMP g c d: SAMPLE of the gate, clock and data lines (R111). -/
  | smp (g c d : Level)
  /-- MAIN: MAIN_STEP, that is DECODE_PHASE or SCAN_STEP (R171). -/
  | main
  /-- RESET: power-on (R175). -/
  | reset
deriving DecidableEq, Repr

/-- The pseudo-operations of R99, beside the operations themselves (R98). -/
inductive Pseudo where
  /-- One operation, as it stands. -/
  | op (i : Instr)
  /-- `FRAME <b0b1...b23>`: one whole frame, position 0 first. -/
  | frame (bits : List Level)
  /-- `MEAS <raw> <s> <u>`: the frame that encodes `raw`, the sign and the unit. -/
  | meas (raw : Nat) (s u : Level)
  /-- `CLKS <string>`: one CLK per character. -/
  | clks (bits : List Level)
  /-- `CYCLE`: six MAIN. -/
  | cycle
  /-- `PASS`: 2587 MAIN. -/
  | pass
  /-- `PINBIT <d>`: one clock pulse at pin level with the gate line high. -/
  | pinBit (d : Level)
deriving DecidableEq, Repr

end Sys2Proof
end

