-- ==== Sys2Proof/Machine/State.lean ====
section
/-! DEFINITION. The state of the core (`spec/10_state.md`): the tuple of rule R20, the driver's
latched output (R36), the output trace (R11), the environment's input list (R11, R176) and the
model's own draw counter; the model-level faults (`spec/60_exceptions.md` rule R201); the refusals;
and the state after reset (R39). -/

namespace Sys2Proof.Machine

/-- `phase` (R32): which arm the next MAIN_STEP takes. -/
inductive Phase where
  | decode
  | scan
deriving DecidableEq, Repr

/-- The snapshot `(m, u, s, c)` (R86, R131): magnitude, unit (1 = inch), sign (1 = negative) and the
inch correction flag. -/
structure Snapshot where
  m : Magnitude
  u : Level
  s : Level
  c : Level
deriving DecidableEq, Repr

/-- Why Decode has no value (R137). -/
inductive RangeInfo where
  /-- `h >= 10000`. -/
  | hTooLarge
  /-- `c = 1` and `h = 0`. -/
  | hBelowC
deriving DecidableEq, Repr

/-- The constant tables (R35), as a TableRange fault names them. -/
inductive Table where
  | w
  | glyph
  | anode
deriving DecidableEq, Repr

/-- The model-level faults (R201), the values of the state element `fault`. They are marks of the
model, not events of the hardware (R200). A step that raises one answers a NEXT state in which the
mark stands (R202); no step of this model answers the host's `fault` outcome. -/
inductive Fault where
  /-- F1 and F2, raised by DECODE_PHASE where Decode has no value (R137); records the snapshot. Safe:
  the hardware goes on with some glyph that the model declines to predict. -/
  | decodeRange (info : RangeInfo) (snap : Snapshot)
  /-- F3, raised by CLOCK_EDGE or SCAN_STEP when an index lies outside its table; records the table
  and the index. Safe: it is unreachable from reset (R53). -/
  | tableRange (table : Table) (index : Nat)
deriving DecidableEq, Repr

/-- What a step can refuse. -/
inductive Refusal where
  /-- Raised by `exec` for an operation that has no meaning yet (none is left). Safe. -/
  | notModelled (mnemonic : String)
  /-- Raised by the step, and by the loading of a trace, when a stimulus byte is reserved: it names
  the byte, and its place among the bytes the decoder was given (R96). Safe: nothing is executed. -/
  | reservedStimulus (byte : Byte) (position : Nat)
deriving DecidableEq, Repr

/-- An output event (R11). -/
inductive OutEvent where
  /-- A 16-bit word handed to the shift-register driver. -/
  | word (w : Word16)
  /-- The hold after each word; it carries no data. -/
  | dwell
deriving DecidableEq, Repr

/-- One entry of the environment's input list: what the environment (R5) does next. -/
inductive Stimulus where
  /-- A STIM8 byte (R95): an operation of the caliper, of the scheduler (MAIN) or of the power
  supply (RESET). -/
  | op (b : Byte)
  /-- The host reporter begins to hold the main agent at the hook point (R186, R190). -/
  | hookHold
  /-- The host reporter lets the main agent go on. -/
  | hookRelease
deriving DecidableEq, Repr

/-- The machine. -/
structure State where
  /-- `gate_active` (R21): a frame window is open. -/
  gateActive : Bool
  /-- `bit_index` (R22): where the next effective CLOCK_EDGE stores its bit. -/
  bitIndex : BitIndex
  /-- `acc` (R23): the magnitude accumulator. -/
  acc : Magnitude
  /-- `bits[0..23]` (R24). -/
  bits : FrameBits
  /-- `sign` (R25). -/
  sign : Bool
  /-- `gate_prev` (R28). -/
  gatePrev : Level
  /-- `clk_prev` (R28). -/
  clkPrev : Level
  /-- `rec.d[0..5]` (R29). -/
  record : Record
  /-- `rec_unit` (R30). -/
  recUnit : Bool
  /-- `phase` (R32). -/
  phase : Phase
  /-- `cyc` (R32). -/
  cyc : CycleCount
  /-- `pos` (R32). -/
  pos : Position
  /-- `fault` (R38); `none` is the spec's own value none. -/
  fault : Option Fault
  /-- `out_latch` (R36): the driver's latched outputs. -/
  outLatch : Word16
  /-- The output trace since the last RESET (R11, R175), the newest event first. -/
  out : List OutEvent
  /-- The reporter holds the main agent at the hook point (R190). -/
  hookBlocked : Bool
  /-- The environment's input list (R11), the next entry first. -/
  pending : List Stimulus
  /-- The model's own: how many free values have been drawn. -/
  draws : Nat
  /-- The instance of the parameters (R7); no operation writes it. -/
  board : Board
deriving DecidableEq, Repr

/-- The output trace in the order of R11, the oldest event first. -/
def State.outTrace (s : State) : List OutEvent :=
  s.out.reverse

/-- The state right after reset (R39, R231). `outLatch`, which R39 leaves unspecified, is 0 here
(assumption 8); the input list is empty, no draw has been made and the reporter does not hold the
main agent (assumptions 1, 6 and 23); the parameters have their default instance (assumption 9). -/
def State.reset : State where
  gateActive := false
  bitIndex := 0
  acc := 0
  bits := 0
  sign := false
  gatePrev := true
  clkPrev := true
  record := #v[12, 0, 0, 0, 0, 0]
  recUnit := false
  phase := .decode
  cyc := 0
  pos := 0
  fault := none
  outLatch := 0
  out := []
  hookBlocked := false
  pending := []
  draws := 0
  board := defaultBoard

end Sys2Proof.Machine
end

