-- ==== Sys2Proof/Machine/Ops.lean ====
section
/-! DEFINITION. The named operations over the state: table reads and the one array write
(`spec/20_memory.md` rules R50 to R53), the writes of the capture, display and sequencer state, the
output (R154), the recording of a model-level fault (R201, R202), power-on (R175) and the reporter
hook (R186, R190). -/

namespace Sys2Proof.Machine

/-! ### Table reads and the array write -/

/-- MemRead (R10, R51, R52): the entry of a table, or the fault TableRange for an index outside it
(R53). -/
def tableRead {α : Type} {n : Nat} (t : Table) (entries : Vector α n) (i : Nat) :
    Except Fault α :=
  match entries[i]? with
  | some v => .ok v
  | none => .error (.tableRange t i)

/-- `MemRead(W, i)` (R51). -/
def readWeight (i : BitIndex) : Except Fault Magnitude :=
  tableRead .w weights i.toNat

/-- `MemRead(GLYPH, k)` (R52). -/
def State.readGlyph (s : State) (k : GlyphIndex) : Except Fault Word16 :=
  tableRead .glyph s.board.glyph k.toNat

/-- `MemRead(ANODE, p)` (R52). -/
def State.readAnode (s : State) (p : Position) : Except Fault Word16 :=
  tableRead .anode s.board.anode p.toNat

/-- `rec.d[p]` (R151). The record has one element per position, so a position outside it is outside
ANODE too, and that is the table the fault names (assumption 11). -/
def State.readRecord (s : State) (p : Position) : Except Fault GlyphIndex :=
  tableRead .anode s.record p.toNat

/-- `MemWrite(bits, i, d)` (R10): element `i` becomes `d`, every other element stays. -/
def writeBit (bits : FrameBits) (i : Nat) (d : Level) : FrameBits :=
  if d then bits ||| (1#24 <<< i) else bits &&& ~~~(1#24 <<< i)

/-! ### Model-level faults -/

/-- Taking a model-level fault (R201, R202): only `fault` changes. A mark that stands already stays
(assumption 5). -/
def State.raise (s : State) (f : Fault) : State :=
  match s.fault with
  | none => { s with fault := some f }
  | some _ => s

/-- The end of an operation that began in `s`: the state it gives, or, where it raises a fault, `s`
with the fault recorded and nothing else changed (R202). -/
def State.settle (s : State) (r : Except Fault State) : State :=
  match r with
  | .ok t => t
  | .error f => s.raise f

/-- Power-on (R175, R39): the way out of a fault. Every state element takes its reset value and the
output trace starts empty; `out_latch` takes a free value (R36, U6), the input list goes on and the
parameters stay. -/
def State.powerOn (s : State) : State :=
  { State.reset with
    outLatch := Config.latchAtPowerOn s.draws
    draws := s.draws + 1
    pending := s.pending
    board := s.board }

/-! ### Capture state -/

/-- The writes of GATE_EDGE (R112): the window opens and the accumulator is zeroed. -/
def State.openWindow (s : State) : State :=
  { s with gateActive := true, acc := 0 }

/-- The writes of sub-steps 2 to 5 of CLOCK_EDGE (R113). -/
def State.storeBit (s : State) (bits : FrameBits) (acc : Magnitude) (sign : Bool) : State :=
  { s with bits := bits, acc := acc, bitIndex := s.bitIndex + 1, sign := sign }

/-- The writes of frame completion (R114). -/
def State.closeWindow (s : State) : State :=
  { s with gateActive := false, bitIndex := 0 }

/-- The previous-level registers take the levels sampled (R111). -/
def State.setLevels (s : State) (g c : Level) : State :=
  { s with gatePrev := g, clkPrev := c }

/-- One more free value has been drawn. -/
def State.draw (s : State) : State :=
  { s with draws := s.draws + 1 }

/-! ### Display and sequencer state -/

/-- The record and its unit are replaced together (R59 item 2, R130). -/
def State.setRecord (s : State) (r : Record) (u : Bool) : State :=
  { s with record := r, recUnit := u }

/-- The sequencer state (R32). -/
def State.setSequencer (s : State) (phase : Phase) (cyc : CycleCount) (pos : Position) : State :=
  { s with phase := phase, cyc := cyc, pos := pos }

/-- `emit Word(w)`, which latches `w` (R36, R160), and `emit Dwell` (R154). -/
def State.emitWord (s : State) (w : Word16) : State :=
  { s with out := .dwell :: .word w :: s.out, outLatch := w }

/-! ### The input list and the reporter hook -/

/-- The input list goes on with `rest`. -/
def State.setPending (s : State) (rest : List Stimulus) : State :=
  { s with pending := rest }

/-- The main agent stands at the hook point: a refresh cycle has just ended (R186, R155). At position
0 that is so with a cycle counted, and in phase DECODE once a pass has ended, but not after a RESET,
when no word has been sent yet, nor where a fault has stopped the main agent (R202). -/
def State.atHook (s : State) : Bool :=
  s.pos == 0 && (s.phase == .decode || s.cyc != 0) && !s.out.isEmpty && s.fault.isNone

/-- The reporter begins to hold the main agent; it can do so only at the hook point (R190). -/
def State.holdAtHook (s : State) : State :=
  { s with hookBlocked := s.hookBlocked || s.atHook }

/-- The reporter lets the main agent go on (R190). -/
def State.releaseHook (s : State) : State :=
  { s with hookBlocked := false }

end Sys2Proof.Machine
end

