-- ==== Sys2Proof/Machine/Flags.lean ====
section
/-! DEFINITION. The flags: the sign, unit and correction flags as elements of `bits`
(`spec/10_state.md` rules R25, R26) and the completion of a frame (R22, `spec/40_capture.md` rule
R114), which clears `gate_active`. -/

namespace Sys2Proof.Machine

/-- The sign flag of a bit array: `bits[20]` (R25). -/
def signFlag (bits : FrameBits) : Bool :=
  bits.getLsbD signPos

/-- The unit flag of a bit array: `bits[23]` (R26). -/
def unitFlag (bits : FrameBits) : Bool :=
  bits.getLsbD unitPos

/-- The inch correction flag of a bit array: `bits[0]` (R26). -/
def corrFlag (bits : FrameBits) : Bool :=
  bits.getLsbD corrPos

/-- The frame is complete: the transient value 24 of `bit_index` (R22, R114). -/
def frameComplete (i : BitIndex) : Bool :=
  i.toNat == frameBits

end Sys2Proof.Machine
end

