-- ==== Sys2Proof/Machine/Operands.lean ====
section
/-! DEFINITION. The operand forms: the sampled data bit and its weight (`spec/40_capture.md` rule
R113), the rising edge of a line (R111), and the decimal-point position (`spec/42_display.md` rule
R153). -/

namespace Sys2Proof.Machine

/-- A rising edge: previous level 0, current level 1 (R111). -/
def risingEdge (prev now : Level) : Bool :=
  !prev && now

/-- `w * d` for a one-bit `d` (R113 sub-step 3; the bit is the level of the line, D4). -/
def weigh (w : Magnitude) (d : Level) : Magnitude :=
  if d then w else 0

/-- The unit the scanner goes by (R153). -/
def State.unitNow (s : State) : Bool :=
  match s.board.unitSrc with
  | .latched => s.recUnit
  | .live => s.bits.getLsbD unitPos

/-- `dp_position` (R153). -/
def State.dpPosition (s : State) : Position :=
  if s.unitNow then s.board.dpPosInch else s.board.dpPosMm

end Sys2Proof.Machine
end

