-- ==== Sys2Proof/Machine/Capture.lean ====
section
/-! DEFINITION. The capture agent (`spec/40_capture.md`): GATE_EDGE (R112), CLOCK_EDGE (R113 to
R115), SAMPLE (R111) and the meanings of GATE, CLK and SMP. Each handler is one atomic step: it saves
nothing on entry and restores nothing on return (R208, R209). -/

namespace Sys2Proof.Machine

/-- GATE_EDGE (R112). -/
def gateEdge (s : State) : State :=
  s.openWindow

/-- Sub-step 6 of CLOCK_EDGE: when the count has reached 24 the frame is complete (R113, R114). -/
def completeIfFull (s : State) : State :=
  if frameComplete s.bitIndex then s.closeWindow else s

/-- CLOCK_EDGE with data level `d`: effective while a window is open (R113, R114), else without
effect (R115). -/
def clockEdge (d : Level) (s : State) : Except Fault State :=
  if s.gateActive then
    match readWeight s.bitIndex with
    | .error f => .error f
    | .ok w =>
      let bits := writeBit s.bits s.bitIndex.toNat d
      .ok (completeIfFull (s.storeBit bits (s.acc + weigh w d) (signFlag bits)))
  else .ok s

/-- Both events of one sample, in the order SIMUL_ORDER gives (R111 corner case d). -/
def bothEdges (order : SimulOrder) (d : Level) (s : State) : Except Fault State :=
  match order with
  | .gateFirst => clockEdge d (gateEdge s)
  | .clockFirst =>
    match clockEdge d s with
    | .ok t => .ok (gateEdge t)
    | .error f => .error f

/-- SAMPLE (R111): the edges are found against the previous levels, which then become the levels
sampled, and the events are performed. -/
def sample (g c d : Level) (s : State) : Except Fault State :=
  let t := s.setLevels g c
  match risingEdge s.gatePrev g, risingEdge s.clkPrev c with
  | true, true => bothEdges (Config.simulOrder s.draws) d t.draw
  | true, false => .ok (gateEdge t)
  | false, true => clockEdge d t
  | false, false => .ok t

/-- GATE (R112). -/
def execGate (s : State) : Host.Outcome State Fault Refusal :=
  .next (gateEdge s)

/-- CLK d (R113 to R115). -/
def execClk (d : Level) (s : State) : Host.Outcome State Fault Refusal :=
  .next (s.settle (clockEdge d s))

/-- SMP g c d (R111). -/
def execSmp (g c d : Level) (s : State) : Host.Outcome State Fault Refusal :=
  .next (s.settle (sample g c d s))

end Sys2Proof.Machine
end

