-- ==== Sys2Proof/Machine/Display.lean ====
section
/-! DEFINITION. The 7-segment multiplexer (`spec/42_display.md`): the word of a position
(`spec/30_encoding.md` rule R92), SCAN_STEP (R150) and the advance of the sequencer (R155). -/

namespace Sys2Proof.Machine

/-- Word assembly (R92): the glyph pattern, the decimal-point mask where the position carries the
point, and the select word, joined by OR. -/
def assembleWord (glyph point select : Word16) (withPoint : Bool) : Word16 :=
  (if withPoint then glyph ||| point else glyph) ||| select

/-- Sub-steps 1 to 4 of SCAN_STEP (R150): the word of the position to be rendered, or TableRange
where an index lies outside its table (R53). -/
def State.scanWord (s : State) : Except Fault Word16 :=
  match s.readRecord s.pos with
  | .error f => .error f
  | .ok k =>
    match s.readGlyph k, s.readGlyph idxDp, s.readAnode s.pos with
    | .ok g, .ok dp, .ok a => .ok (assembleWord g dp a (s.pos == s.dpPosition))
    | .error f, _, _ => .error f
    | _, .error f, _ => .error f
    | _, _, .error f => .error f

/-- The advance after a word (R155): next position, next cycle, or the end of the pass. -/
def State.advance (s : State) : State :=
  if s.pos.toNat < nPos - 1 then s.setSequencer s.phase s.cyc (s.pos + 1)
  else if s.cyc.toNat < nCycles - 1 then s.setSequencer s.phase (s.cyc + 1) 0
  else s.setSequencer .decode 0 0

/-- SCAN_STEP (R150). -/
def scanStep (s : State) : Except Fault State :=
  match s.scanWord with
  | .error f => .error f
  | .ok w => .ok (s.emitWord w).advance

end Sys2Proof.Machine
end

