-- ==== Sys2Proof/Machine/Measure.lean ====
section
/-! DEFINITION. The measurement decoder (`spec/41_decode.md`): the snapshot (R131), the function
Decode (R133 to R138) and the operation DECODE_PHASE (R130, R132). -/

namespace Sys2Proof.Machine

/-- The snapshot of one state (R131). -/
def State.snapshot (s : State) : Snapshot where
  m := s.acc
  u := unitFlag s.bits
  s := s.sign
  c := corrFlag s.bits

/-- The glyph index of a decimal digit (R88). -/
def digitGlyph (n : Nat) : GlyphIndex :=
  BitVec.ofNat 4 n

/-- The sign place, in both branches (R133). -/
def signGlyph (s : Level) : GlyphIndex :=
  if s then idxMinus else idxBlank

/-- The mm branch (R134): five digits, leading zeros kept. -/
def decodeMm (m : Nat) (s : Level) : Record :=
  #v[signGlyph s,
     digitGlyph (m / 10000),
     digitGlyph (m % 10000 / 1000),
     digitGlyph (m % 10000 % 1000 / 100),
     digitGlyph (m % 10000 % 1000 % 100 / 10),
     digitGlyph (m % 10000 % 1000 % 100 % 10)]

/-- The inch branch (R135 to R138): `h` is half the magnitude; digits 1 to 3 come from `h` itself,
digit 4 from `h - c`, and digit 5 is 5 or 0. -/
def decodeInch (m : Nat) (s c : Level) : Except RangeInfo Record :=
  let h := m / 2
  if 10000 ≤ h then .error .hTooLarge
  else if h < c.toNat then .error .hBelowC
  else .ok
    #v[signGlyph s,
       digitGlyph (h / 1000),
       digitGlyph (h % 1000 / 100),
       digitGlyph (h % 100 / 10),
       digitGlyph ((h - c.toNat) % 10),
       digitGlyph (5 * c.toNat)]

/-- The function Decode (R133 to R138). -/
def decodeMeasurement (x : Snapshot) : Except RangeInfo Record :=
  if x.u then decodeInch x.m.toNat x.s x.c else .ok (decodeMm x.m.toNat x.s)

/-- DECODE_PHASE (R130): with no window open the frame is decoded into the record; with a window
open the record stays (R132); either way a scan pass begins. -/
def decodePhase (s : State) : Except Fault State :=
  if s.gateActive then .ok (s.setSequencer .scan 0 0)
  else
    match decodeMeasurement s.snapshot with
    | .error info => .error (.decodeRange info s.snapshot)
    | .ok r => .ok ((s.setRecord r s.snapshot.u).setSequencer .scan 0 0)

end Sys2Proof.Machine
end

