-- ==== Sys2Proof/Machine/MainLoop.lean ====
section
/-! DEFINITION. The main-loop sequencer (`spec/43_mainloop.md`): MAIN_STEP (R171) and RESET (R175),
and the meanings of MAIN and RESET. -/

namespace Sys2Proof.Machine

/-- MAIN_STEP is enabled: no fault is recorded and the reporter does not hold the main agent (R171,
R190). -/
def State.mainEnabled (s : State) : Bool :=
  s.fault.isNone && !s.hookBlocked

/-- The arm of MAIN_STEP that the phase selects (R171). -/
def mainArm (s : State) : Except Fault State :=
  match s.phase with
  | .decode => decodePhase s
  | .scan => scanStep s

/-- MAIN_STEP (R171). Where it is not enabled it is no step, and the state stays as it is
(assumption 4). -/
def mainStep (s : State) : State :=
  if s.mainEnabled then s.settle (mainArm s) else s

/-- MAIN (R171). -/
def execMain (s : State) : Host.Outcome State Fault Refusal :=
  .next (mainStep s)

/-- RESET (R175): enabled in every state, a faulted one too. -/
def execReset (s : State) : Host.Outcome State Fault Refusal :=
  .next s.powerOn

end Sys2Proof.Machine
end

