-- ==== Sys2Proof/Machine/Dispatch.lean ====
section
/-! DEFINITION. The operation set (`spec/30_encoding.md` rule R95): one arm per constructor. -/

namespace Sys2Proof.Machine

def exec (i : Instr) (s : State) : Host.Outcome State Fault Refusal :=
  match i with
  | .gate => Sys2Proof.Machine.execGate s
  | .clk d => Sys2Proof.Machine.execClk d s
  | .smp g c d => Sys2Proof.Machine.execSmp g c d s
  | .main => Sys2Proof.Machine.execMain s
  | .reset => Sys2Proof.Machine.execReset s

end Sys2Proof.Machine
end

