-- ==== Sys2Proof/Decode.lean ====
section
/-! DEFINITION. The stimulus decoder and encoder: STIM8 (`spec/30_encoding.md` rules R95 to R97). It
is the spec's own encoding of an operation in a trace; the hardware sees no such byte. -/

namespace Sys2Proof

/-- One bit as a byte with that bit at place `k`. -/
def bitAt (k : Nat) (d : Level) : Byte :=
  if d then 1#8 <<< k else 0#8

/-- The operation a byte names, or none where the byte is reserved (R95, R96). The rows stand in the
table's order, each with its mask and match. -/
def decodeByte (b : Byte) : Option Instr :=
  if b &&& 0xFF#8 = 0x10#8 then some .gate
  else if b &&& 0xFE#8 = 0x20#8 then some (.clk (b.getLsbD 0))
  else if b &&& 0xF8#8 = 0x30#8 then some (.smp (b.getLsbD 2) (b.getLsbD 1) (b.getLsbD 0))
  else if b &&& 0xFF#8 = 0x40#8 then some .main
  else if b &&& 0xFF#8 = 0xF0#8 then some .reset
  else none

/-- The trace decoder's refusal: the reserved byte, and how many bytes stand before it in the trace
(R96: refused "by name and position"). -/
structure ReservedStimulus where
  byte : Byte
  position : Nat
deriving DecidableEq, Repr

/-- The operations of a trace whose first byte stands at place `at0`. -/
def decodeFrom : Nat → List Byte → Except ReservedStimulus (List Instr)
  | _, [] => .ok []
  | at0, b :: rest =>
    match decodeByte b with
    | none => .error ⟨b, at0⟩
    | some i =>
      match decodeFrom (at0 + 1) rest with
      | .error e => .error e
      | .ok is => .ok (i :: is)

/-- The operations of a whole trace, or its first reserved byte (R96). -/
def decodeTrace (bytes : List Byte) : Except ReservedStimulus (List Instr) :=
  decodeFrom 0 bytes

/-- The byte of an operation (R95). -/
def encode : Instr → Byte
  | .gate => 0x10#8
  | .clk d => 0x20#8 ||| bitAt 0 d
  | .smp g c d => 0x30#8 ||| bitAt 2 g ||| bitAt 1 c ||| bitAt 0 d
  | .main => 0x40#8
  | .reset => 0xF0#8

/-- The bytes of a list of operations, in their order. -/
def encodeTrace (is : List Instr) : List Byte :=
  is.map encode

/-- What the decoder reads from an instruction whose bits are `w`, of which the opcode table gives
`nbits` (one byte, R97): the low byte is the stimulus byte; there is no second one. -/
def decodeTableWord (nbits w : Nat) : Option Instr :=
  if w % 2 ^ nbits < 256 then decodeByte (BitVec.ofNat 8 (w % 2 ^ nbits)) else none

end Sys2Proof
end

