-- ==== Sys2Proof/Machine/Fetch.lean ====
section
/-! DEFINITION. Where the next operation comes from. The core fetches nothing (`spec/10_state.md`
rule R33): the environment's input list says what happens next (`spec/00_scope.md` rule R11,
`spec/43_mainloop.md` rules R174, R176), and when it lists nothing more the main agent, the only one
with work left, goes on (R170, assumption 2). -/

namespace Sys2Proof.Machine

/-- What the input list gives next. -/
inductive Fetched where
  /-- Run this operation in this state, whose input list has gone on. -/
  | run (i : Instr) (s : State)
  /-- The reporter acted: this is the state after it. -/
  | event (s : State)
  /-- The next byte is reserved. -/
  | reserved (b : Byte)
deriving DecidableEq, Repr

/-- The next entry of the input list, taken off it and decoded. -/
def fetch (s : State) : Fetched :=
  match s.pending with
  | [] => .run .main s
  | .op b :: rest =>
    match decodeByte b with
    | some i => .run i (s.setPending rest)
    | none => .reserved b
  | .hookHold :: rest => .event (s.setPending rest).holdAtHook
  | .hookRelease :: rest => .event (s.setPending rest).releaseHook

/-- The input list with one byte put before it: the low byte of the `nbits` bits of `w` (R97: an
operation is one byte). -/
def pushWord (nbits w : Nat) (pending : List Stimulus) : List Stimulus :=
  .op (BitVec.ofNat 8 (w % 2 ^ nbits)) :: pending

/-- A trace is loaded behind what the input list holds. The trace decoder reads it whole first: a
trace with a reserved byte is refused by the byte and its position, and nothing of it is run (R96,
R201). -/
def State.loadTrace (s : State) (bytes : List Byte) : Host.Outcome State Fault Refusal :=
  match decodeTrace bytes with
  | .error e => .refused (.reservedStimulus e.byte e.position)
  | .ok _ => .next (s.setPending (s.pending ++ bytes.map Stimulus.op))

end Sys2Proof.Machine
end

