-- ==== Sys2Proof/Machine/Step.lean ====
section
/-! DEFINITION. One step of the machine (`spec/20_memory.md` rule R63: pick an enabled agent, apply
its operation to the whole state). -/

namespace Sys2Proof.Machine

/-- One step: the next entry of the input list is carried out. A reserved byte is refused by name;
it is the first of the bytes the decoder was given (R96). -/
def step (s : State) : Host.Outcome State Fault Refusal :=
  match fetch s with
  | .run i t => exec i t
  | .event t => .next t
  | .reserved b => .refused (.reservedStimulus b 0)

/-- `s` with one stimulus put before its input list, so that the very next step runs it. -/
def State.withFetchWord (s : State) (nbits w : Nat) : State :=
  s.setPending (pushWord nbits w s.pending)

end Sys2Proof.Machine
end

