-- ==== Sys2Proof/Machine/Driver.lean ====
section
/-! DEFINITION. The contract of the shift-register driver at bit level (`spec/42_display.md` rule
R160, `spec/30_encoding.md` rules R55 and R94): what one `Word(w)` is on the serial line, and what
the chain makes of it. Between two words the core needs only `out_latch` (R36, R37 item 2). -/

namespace Sys2Proof.Machine

/-- One event on the serial line to the shift registers (R94). -/
inductive BitEvent where
  /-- One bit is shifted in. -/
  | shift (b : Bool)
  /-- The shifted bits appear on the parallel outputs. -/
  | latch
deriving DecidableEq, Repr

/-- The chain: the bits shifted in so far and the parallel outputs (R160). -/
structure Chain where
  shifted : Word16
  outputs : Word16
deriving DecidableEq, Repr

/-- `Shift(w[n-1])`, ..., `Shift(w[0])`. -/
def shiftsFrom (w : Word16) : Nat → List BitEvent
  | 0 => []
  | n + 1 => .shift (w.getLsbD n) :: shiftsFrom w n

/-- One call of the driver (R160 item 1): 16 shifts, most significant bit first, then the latch. -/
def wordBits (w : Word16) : List BitEvent :=
  shiftsFrom w 16 ++ [.latch]

/-- The chain on one event: a shift moves every bit one place on and takes the new bit in at the
near end, leaving the outputs; a latch copies the shifted bits to the outputs (R160 items 2, 5). -/
def Chain.onEvent (c : Chain) : BitEvent → Chain
  | .shift b => { c with shifted := (c.shifted <<< 1) ||| (if b then 1#16 else 0#16) }
  | .latch => { c with outputs := c.shifted }

/-- The chain after a sequence of events. -/
def Chain.run (c : Chain) : List BitEvent → Chain
  | [] => c
  | e :: es => (c.onEvent e).run es

/-- The serial form of an output trace (R11): each word as its bits, a dwell as nothing. -/
def serialTrace : List OutEvent → List BitEvent
  | [] => []
  | .word w :: rest => wordBits w ++ serialTrace rest
  | .dwell :: rest => serialTrace rest

end Sys2Proof.Machine
end

