-- ==== Sys2Proof/WellFormed.lean ====
section
/-! DEFINITION. The static checks: on an operation (none is needed: its operands are single levels
by type), on a pseudo-operation (R99) and on an instance of the tables (R89, R153). -/

namespace Sys2Proof

/-- Every operation of R95 is well formed: each operand field is one bit, and so is each operand. -/
def Instr.wf : Instr → Bool
  | .gate => true
  | .clk _ => true
  | .smp _ _ _ => true
  | .main => true
  | .reset => true

/-- R99: a FRAME string has 24 characters and `raw` of MEAS is in 0..65535. -/
def Pseudo.wf : Pseudo → Bool
  | .op i => i.wf
  | .frame bits => bits.length == 24
  | .meas raw _ _ => raw < 65536
  | .clks _ => true
  | .cycle => true
  | .pass => true
  | .pinBit _ => true

/-- A word with exactly one bit set. -/
def oneHot (w : Word16) : Bool :=
  w != 0#16 && (w &&& (w - 1#16)) == 0#16

/-- R89, first part: `GLYPH[k] & ANODE[p] = 0` for all `k` and `p`. -/
def Board.disjointTables (b : Board) : Bool :=
  b.glyph.toList.all fun g => b.anode.toList.all fun a => (g &&& a) == 0#16

/-- R89, second part: each `ANODE[p]` has exactly one bit set. -/
def Board.oneHotAnodes (b : Board) : Bool :=
  b.anode.toList.all oneHot

/-- R89, third part: the six `ANODE[p]` are pairwise different. -/
def Board.distinctAnodes (b : Board) : Bool :=
  decide (b.anode.toList.Pairwise (· ≠ ·))

/-- R153: the two decimal-point positions differ and each is in 1..5. -/
def Board.pointPositions (b : Board) : Bool :=
  b.dpPosMm != b.dpPosInch && 1 ≤ b.dpPosMm.toNat && b.dpPosMm.toNat ≤ 5
    && 1 ≤ b.dpPosInch.toNat && b.dpPosInch.toNat ≤ 5

/-- The constraint every instance of the tables must meet (R89, R153). -/
def Board.wf (b : Board) : Bool :=
  b.disjointTables && b.oneHotAnodes && b.distinctAnodes && b.pointPositions

end Sys2Proof
end

