-- ==== Sys2Proof/Machine/Trace.lean ====
section
/-! DEFINITION. The trace language of the spec: the expansion of the pseudo-operations
(`spec/30_encoding.md` rule R99) and the text syntax (R98). It adds no behaviour: a text becomes
operations, and those become bytes (R95). Lines are lists of characters. -/

namespace Sys2Proof.Machine

/-! ### Pseudo-operations (R99) -/

/-- `GATE`, then one `CLK` per bit. -/
def frameOps (bits : List Level) : List Instr :=
  .gate :: bits.map .clk

/-- Character `i` of the MEAS frame: bit `i` of `raw` below 16, the sign at 20, the unit at 23, else
0. -/
def measBit (raw : Nat) (s u : Level) (i : Nat) : Level :=
  if i < 16 then raw.testBit i else if i = 20 then s else if i = 23 then u else false

/-- The 24 bits of a MEAS frame, position 0 first. -/
def measBits (raw : Nat) (s u : Level) : List Level :=
  (List.range 24).map (measBit raw s u)

/-- The operations a pseudo-operation stands for (R99). -/
def expand : Pseudo → List Instr
  | .op i => [i]
  | .frame bits => frameOps bits
  | .meas raw s u => frameOps (measBits raw s u)
  | .clks bits => bits.map .clk
  | .cycle => List.replicate 6 .main
  | .pass => List.replicate 2587 .main
  | .pinBit d => [.smp true false d, .smp true true d]

/-- The bytes of a list of pseudo-operations. -/
def assemble (ps : List Pseudo) : List Byte :=
  encodeTrace (ps.flatMap expand)

/-! ### Text (R98) -/

/-- The pieces of a text between occurrences of `sep`. -/
def splitAtChar (sep : Char) : List Char → List (List Char)
  | [] => [[]]
  | c :: cs =>
    match splitAtChar sep cs with
    | [] => [[c]]
    | w :: ws => if c == sep then [] :: w :: ws else (c :: w) :: ws

/-- A line without its comment (R98: `#` starts a comment to the end of the line). -/
def uncomment : List Char → List Char
  | [] => []
  | c :: cs => if c == '#' then [] else c :: uncomment cs

/-- A line without the spaces before and after it. Only the space is blank: a tab or a carriage return
is a character like any other (assumption 22). -/
def trimSpaces (line : List Char) : List Char :=
  ((line.dropWhile (· == ' ')).reverse.dropWhile (· == ' ')).reverse

/-- A digit `0` or `1` (R98). -/
def parseBit : Char → Option Level
  | '0' => some false
  | '1' => some true
  | _ => none

/-- A string of digits `0` and `1`. -/
def parseBits : List Char → Option (List Level)
  | [] => some []
  | c :: cs =>
    match parseBit c, parseBits cs with
    | some b, some bs => some (b :: bs)
    | _, _ => none

/-- An argument that is one digit `0` or `1`. -/
def parseArg (word : List Char) : Option Level :=
  match parseBits word with
  | some [b] => some b
  | _ => none

/-- A decimal digit. -/
def parseDigit (c : Char) : Option Nat :=
  if '0' ≤ c ∧ c ≤ '9' then some (c.toNat - '0'.toNat) else none

/-- A decimal number, continued from the value `n` of its first digits. -/
def parseDigits (n : Nat) : List Char → Option Nat
  | [] => some n
  | c :: cs =>
    match parseDigit c with
    | some d => parseDigits (10 * n + d) cs
    | none => none

/-- A decimal number of at least one digit (R99: the `raw` of MEAS). -/
def parseDecimal : List Char → Option Nat
  | [] => none
  | cs => parseDigits 0 cs

/-- The operation or pseudo-operation that the words of a line spell, if they spell one (R98, R99). A
CLKS string has any length, none included; CLKS alone has the empty string (assumption 22). -/
def parseWords : List (List Char) → Option Pseudo
  | [['R', 'E', 'S', 'E', 'T']] => some (.op .reset)
  | [['G', 'A', 'T', 'E']] => some (.op .gate)
  | [['M', 'A', 'I', 'N']] => some (.op .main)
  | [['C', 'Y', 'C', 'L', 'E']] => some .cycle
  | [['P', 'A', 'S', 'S']] => some .pass
  | [['C', 'L', 'K'], d] => (parseArg d).map fun b => .op (.clk b)
  | [['C', 'L', 'K', 'S']] => some (.clks [])
  | [['C', 'L', 'K', 'S'], bits] => (parseBits bits).map .clks
  | [['F', 'R', 'A', 'M', 'E'], bits] => (parseBits bits).map .frame
  | [['P', 'I', 'N', 'B', 'I', 'T'], d] => (parseArg d).map .pinBit
  | [['S', 'M', 'P'], g, c, d] =>
    match parseArg g, parseArg c, parseArg d with
    | some g, some c, some d => some (.op (.smp g c d))
    | _, _, _ => none
  | [['M', 'E', 'A', 'S'], raw, s, u] =>
    match parseDecimal raw, parseArg s, parseArg u with
    | some raw, some s, some u => some (.meas raw s u)
    | _, _, _ => none
  | _ => none

/-- What a line says: nothing (blank, or a comment alone), a well-formed operation or
pseudo-operation, or something R98 does not admit. -/
inductive Line where
  | blank
  | pseudo (p : Pseudo)
  | malformed
deriving DecidableEq, Repr

/-- One line of a trace text (R98). -/
def parseLine (line : List Char) : Line :=
  match trimSpaces (uncomment line) with
  | [] => .blank
  | text =>
    match parseWords (splitAtChar ' ' text) with
    | some p => if p.wf then .pseudo p else .malformed
    | none => .malformed

/-- The pseudo-operations of the lines from line `n` on, or the number of the first line that is
malformed. -/
def parseLines (n : Nat) : List (List Char) → Except Nat (List Pseudo)
  | [] => .ok []
  | l :: ls =>
    match parseLine l, parseLines (n + 1) ls with
    | .malformed, _ => .error n
    | _, .error e => .error e
    | .blank, .ok ps => .ok ps
    | .pseudo p, .ok ps => .ok (p :: ps)

/-- A trace text (R98): its pseudo-operations, or the number of its first malformed line, counted
from 1. The line feed, and nothing else, ends a line (assumption 22). -/
def parseText (text : List Char) : Except Nat (List Pseudo) :=
  parseLines 1 (splitAtChar '\n' text)

end Sys2Proof.Machine
end

