-- ==== Sys2Proof/Safety.lean ====
section
/-! DEFINITION. The terms in which claims speak: the invariants the spec states (`spec/10_state.md`
rules R27, R31, R32, R36), runs of several operations, and what a frame and a refresh cycle amount
to (`spec/30_encoding.md` rules R81, R83; `spec/42_display.md` rule R156). -/

namespace Sys2Proof.Machine

/-! ### Frames -/

/-- The weight of a frame position, as the layout table of R81 gives it. -/
def weightOf (i : Nat) : Nat :=
  if i < 16 then 2 ^ i else if i = 20 ∨ i = 23 then 1 else 0

/-- The sum of the weights of the positions below `k`. -/
def weightSum : Nat → Nat
  | 0 => 0
  | k + 1 => weightSum k + weightOf k

/-- The weighted sum of the first `n` bits of `b` when they are stored from position `k` on (R83 for
`k = 0`; R117 else). -/
def weighted (b : FrameBits) (k : Nat) : Nat → Nat
  | 0 => 0
  | n + 1 => weighted b k n + weightOf (k + n) * (b.getLsbD n).toNat

/-- The clocks that carry the first `n` bits of a frame, position 0 first (R81). -/
def frameClocks (b : FrameBits) (n : Nat) : List Instr :=
  (List.range n).map fun i => .clk (b.getLsbD i)

/-- The 16-bit field `raw` of a frame (R83). -/
def rawField (b : FrameBits) : Nat :=
  (b.extractLsb' 0 16).toNat

/-- Positions 16 to 19, 21 and 22 (R84). -/
def unusedPosition (i : Nat) : Bool :=
  (16 ≤ i && i ≤ 19) || i == 21 || i == 22

/-! ### Runs -/

/-- The outcome of carrying out operations one after the other. -/
def execAll : List Instr → State → Host.Outcome State Fault Refusal
  | [], s => .next s
  | i :: is, s =>
    match exec i s with
    | .next t => execAll is t
    | .fault f => .fault f
    | .refused r => .refused r

/-- The operations of the capture agent (R5). -/
def isCapture : Instr → Bool
  | .gate => true
  | .clk _ => true
  | .smp _ _ _ => true
  | .main => false
  | .reset => false

/-- Whether a GATE_EDGE happens in a run of operations that begins with the gate line at `prev`: by
GATE, or by a SAMPLE that sees the line rise (R111, R112). A RESET ends the frame too and counts as
one. -/
def gateSeen (prev : Level) : List Instr → Bool
  | [] => false
  | .gate :: _ => true
  | .reset :: _ => true
  | .smp g _ _ :: is => (!prev && g) || gateSeen g is
  | .clk _ :: is => gateSeen prev is
  | .main :: is => gateSeen prev is

/-- How many MAIN a list of operations holds. -/
def mainCount : List Instr → Nat
  | [] => 0
  | i :: is => mainCount is + (if i = .main then 1 else 0)

/-- How many SCAN_STEPs are left of the scan pass (R155, R172). -/
def State.scanStepsLeft (s : State) : Nat :=
  6 * (430 - s.cyc.toNat) + (6 - s.pos.toNat)

/-! ### The display -/

/-- `G(p)` (R156): the word that position `p` of the record shows. -/
def State.positionWord (s : State) (p : Nat) : Word16 :=
  (s.board.glyph[(s.record[p]?.getD 0).toNat]?.getD 0
    ||| (if p = s.dpPosition.toNat then s.board.glyph[10] else 0))
    ||| s.board.anode[p]?.getD 0

/-- The output events of one refresh cycle (R156). -/
def State.cycleEvents (s : State) : List OutEvent :=
  (List.range 6).flatMap fun p => [.word (s.positionWord p), .dwell]

/-- The word emitted last, given the output trace newest first. -/
def lastWord : List OutEvent → Option Word16
  | [] => none
  | .word w :: _ => some w
  | .dwell :: rest => lastWord rest

/-- Each word is followed by its dwell, in an output trace newest first (R154). -/
def paced : List OutEvent → Bool
  | [] => true
  | .dwell :: .word _ :: rest => paced rest
  | _ => false

/-! ### Frames of a statement: which part of the state an operation may change

`t.withFrameOf s = s` says that `t` differs from `s` at most in the elements the function names. -/

/-- `t`, but with the capture state (R20) of `s`. -/
def State.withFrameOf (t s : State) : State :=
  { t with
    gateActive := s.gateActive, bitIndex := s.bitIndex, acc := s.acc, bits := s.bits,
    sign := s.sign }

/-- `t`, but with all that a capture operation may write taken from `s`: the capture state, the front
end (R20, R40) and the model's draw counter. -/
def State.withCaptureOf (t s : State) : State :=
  { t with
    gateActive := s.gateActive, bitIndex := s.bitIndex, acc := s.acc, bits := s.bits,
    sign := s.sign, gatePrev := s.gatePrev, clkPrev := s.clkPrev, draws := s.draws }

/-- `t`, but with all that the main agent may write taken from `s`: the display state, the sequencer
state, the fault mark and the output (R40, R202). -/
def State.withMainOf (t s : State) : State :=
  { t with
    record := s.record, recUnit := s.recUnit, phase := s.phase, cyc := s.cyc, pos := s.pos,
    fault := s.fault, outLatch := s.outLatch, out := s.out }

/-- `t`, but with all that SCAN_STEP may write taken from `s`: the output and the sequencer state
(R150). -/
def State.withScanOf (t s : State) : State :=
  { t with
    out := s.out, outLatch := s.outLatch, pos := s.pos, cyc := s.cyc, phase := s.phase }

/-! ### Invariants -/

/-- R27 items 1 to 4, with the bound of item 4 for a frame in progress. -/
abbrev State.captureInv (s : State) : Prop :=
  s.bitIndex.toNat < 24
    ∧ (s.gateActive = false → s.bitIndex = 0)
    ∧ s.sign = s.bits.getLsbD 20
    ∧ s.acc.toNat ≤ 65537
    ∧ (s.gateActive = true → s.acc.toNat ≤ weightSum s.bitIndex.toNat)

/-- R31: the values a record can hold. -/
abbrev State.displayInv (s : State) : Prop :=
  (s.record[0] = 11 ∨ s.record[0] = 12)
    ∧ (∀ k : Fin 6, k ≠ 0 → s.record[k].toNat ≤ 9)
    ∧ (s.recUnit = true → s.record[5] = 0 ∨ s.record[5] = 5)

/-- R32: the ranges of the sequencer state. -/
abbrev State.sequencerInv (s : State) : Prop :=
  s.cyc.toNat ≤ 430 ∧ s.pos.toNat ≤ 5 ∧ (s.phase = .decode → s.cyc = 0 ∧ s.pos = 0)

/-- R36 and R154: the latched outputs are the last word sent, and each word has its dwell. -/
abbrev State.outputInv (s : State) : Prop :=
  paced s.out = true ∧ (lastWord s.out).all (· == s.outLatch) = true

/-- A TableRange fault. -/
def isTableRange : Option Fault → Bool
  | some (.tableRange _ _) => true
  | _ => false

/-- The invariant of every reachable state: R27, R31, R32, R36, the reporter holding the main agent
only at the hook point (R190), and no index outside its table (R53). -/
abbrev State.Inv (s : State) : Prop :=
  s.captureInv ∧ s.displayInv ∧ s.sequencerInv ∧ s.outputInv
    ∧ (s.hookBlocked = true → s.atHook = true)
    ∧ isTableRange s.fault = false

/-- A good state: the invariant holds and no model-level fault is recorded (R202: every claim about
what the display shows takes `fault = none` as a premise). -/
abbrev State.Good (s : State) : Prop :=
  s.Inv ∧ s.fault = none

end Sys2Proof.Machine
end

