-- ==== Sys2Proof/Certificates/Slice0/Obligations.lean ====
section
/-! DEFINITION. The statements for the provers, in the order of `spec/`: encodings, the step, the
capture agent, the decoder, the display, the main loop and reset, the invariants. An equation
`exec i s = .next { s with … }` states the operation's frame with its effect: every element not named
is unchanged. -/

open Sys2Proof Sys2Proof.Machine

/-! ### Encodings (30_encoding.md) -/

/-- R95: the thirteen bytes of the five rows and the operations they name (the encoding is the
spec's decision D27). -/
def Obligations.StimulusBytesNameTheirOperations : Prop :=
  decodeByte 0b00010000#8 = some .gate
    ∧ decodeByte 0b00100000#8 = some (.clk false) ∧ decodeByte 0b00100001#8 = some (.clk true)
    ∧ decodeByte 0b00110000#8 = some (.smp false false false)
    ∧ decodeByte 0b00110001#8 = some (.smp false false true)
    ∧ decodeByte 0b00110010#8 = some (.smp false true false)
    ∧ decodeByte 0b00110011#8 = some (.smp false true true)
    ∧ decodeByte 0b00110100#8 = some (.smp true false false)
    ∧ decodeByte 0b00110101#8 = some (.smp true false true)
    ∧ decodeByte 0b00110110#8 = some (.smp true true false)
    ∧ decodeByte 0b00110111#8 = some (.smp true true true)
    ∧ decodeByte 0b01000000#8 = some .main
    ∧ decodeByte 0b11110000#8 = some .reset

/-- R96 (the spec's decision D27): which bytes are reserved, by their `op` and `arg` fields; a trace
is refused by its first reserved byte and that byte's position, and nothing of it is run. -/
def Obligations.ReservedStimuliAreRefusedByNameAndPosition : Prop :=
  (∀ b : Byte, decodeByte b = none ↔
    (let op := b.extractLsb' 4 4
     let arg := b.extractLsb' 0 4
     op = 0x0 ∨ (0x5 ≤ op ∧ op ≤ 0xE) ∨ ((op = 0x1 ∨ op = 0x4 ∨ op = 0xF) ∧ arg ≠ 0)
       ∨ (op = 0x2 ∧ arg.extractLsb' 1 3 ≠ 0) ∨ (op = 0x3 ∧ arg.getLsbD 3 = true)))
    ∧ (∀ (bytes : List Byte) (e : ReservedStimulus), decodeTrace bytes = .error e ↔
        decodeByte e.byte = none ∧ ∃ before after, bytes = before ++ e.byte :: after
          ∧ before.length = e.position ∧ ∀ b ∈ before, decodeByte b ≠ none)
    ∧ (∀ (s : State) (bytes : List Byte) (e : ReservedStimulus), decodeTrace bytes = .error e →
        s.loadTrace bytes = .refused (.reservedStimulus e.byte e.position))

/-- Decode and encode agree on whole traces, both ways round: the bytes of any operations decode to
them, and no other bytes do. -/
def Obligations.TraceDecodeAndEncodeAgree : Prop :=
  (∀ is : List Instr, (∀ i ∈ is, i.wf = true) → decodeTrace (encodeTrace is) = .ok is)
    ∧ (∀ (bytes : List Byte) (is : List Instr), decodeTrace bytes = .ok is →
        encodeTrace is = bytes)

/-- R99 (the spec's decision D28): what each pseudo-operation stands for, how many bytes it makes,
and the bytes of the rule's example. -/
def Obligations.PseudoOperationsExpandAsListed : Prop :=
  (∀ bits, expand (.frame bits) = .gate :: bits.map .clk)
    ∧ (∀ raw s u, ∃ bits : List Level, expand (.meas raw s u) = expand (.frame bits)
        ∧ bits.length = 24
        ∧ ∀ i, i < 24 → bits[i]? = some (if i < 16 then raw.testBit i
            else if i = 20 then s else if i = 23 then u else false))
    ∧ (∀ bits, expand (.clks bits) = bits.map .clk)
    ∧ expand .cycle = List.replicate 6 .main
    ∧ expand .pass = List.replicate (1 + 431 * 6) .main
    ∧ (∀ d, expand (.pinBit d) = [.smp true false d, .smp true true d])
    ∧ (∀ bits, (Pseudo.frame bits).wf = true → (assemble [.frame bits]).length = 25)
    ∧ (∀ raw s u, (assemble [.meas raw s u]).length = 25)
    ∧ (∀ bits, (assemble [.clks bits]).length = bits.length)
    ∧ (assemble [.cycle]).length = 6
    ∧ (assemble [.pass]).length = 2587
    ∧ (∀ d, (assemble [.pinBit d]).length = 2)
    ∧ assemble [.meas 12345 false false]
        = [0x10, 0x21, 0x20, 0x20, 0x21, 0x21, 0x21, 0x20, 0x20, 0x20, 0x20, 0x20, 0x20, 0x21, 0x21,
           0x20, 0x20, 0x20, 0x20, 0x20, 0x20, 0x20, 0x20, 0x20, 0x20]

/-- R82: the weight table, its values as R81 lays them out, and their sum. -/
def Obligations.WeightTableHoldsItsWeights : Prop :=
  weights.toList.map BitVec.toNat
      = [1, 2, 4, 8, 16, 32, 64, 128, 256, 512, 1024, 2048, 4096, 8192, 16384, 32768,
         0, 0, 0, 0, 1, 0, 0, 1]
    ∧ (∀ i : Fin 24, weights[i].toNat = weightOf i) ∧ weightSum 24 = 65537

/-! ### The step -/

/-- A step carries out the next stimulus: a byte that decodes to an operation is taken off the input
list and the operation is run on what is left; `withFetchWord` puts a byte before the list. That a
machine without program memory is driven by such a list is the model's choice (assumption 1). -/
def Obligations.StepRunsTheDecodedOperation : Prop :=
  (∀ (s : State) (b : Byte) (rest : List Stimulus) (i : Instr), s.pending = .op b :: rest →
      decodeByte b = some i → step s = exec i { s with pending := rest })
    ∧ (∀ (s : State) (i : Instr), i.wf = true →
        step (s.withFetchWord 8 (encode i).toNat) = exec i s)

/-- With nothing left on the input list the main agent goes on. The model's choice (assumption 2):
R170 calls the loop endless, R176 says only that the hardware goes on scanning. -/
def Obligations.StepWithoutStimulusRunsTheMainLoop : Prop :=
  ∀ s : State, s.pending = [] → step s = exec .main s

/-- A trace of well-formed operations, loaded into a machine whose input list is empty, runs them in
their order, one a step (R11, R95; the input list is the model's form of it, assumption 1). -/
def Obligations.LoadedTraceRunsItsOperationsInOrder : Prop :=
  ∀ (s : State) (is : List Instr), s.pending = [] → (∀ i ∈ is, i.wf = true) →
    ∃ t : State, s.loadTrace (encodeTrace is) = .next t
      ∧ Host.Core.run Sys2Proof.core is.length t = execAll is s

/-- The reporter can begin to hold the main agent only at the hook point, where a refresh cycle has just
ended, can let it go on at any time, and changes nothing else (R186, R190); as entries of the input list these two acts are the
model's choice (assumption 6). -/
def Obligations.ReporterOnlyHoldsAndReleases : Prop :=
  (∀ (s : State) (rest : List Stimulus), s.pending = .hookHold :: rest →
      step s = .next { s with
        pending := rest
        hookBlocked := s.hookBlocked ||
          (s.pos == 0 && (s.phase == .decode || s.cyc != 0) && !s.out.isEmpty
            && s.fault.isNone) })
    ∧ (∀ (s : State) (rest : List Stimulus), s.pending = .hookRelease :: rest →
        step s = .next { s with pending := rest, hookBlocked := false })

/-- No operation of the core ends a run: in every state each of the five answers a next state
(R64 item 4 for the handlers; R202 and assumptions 3 and 4 for MAIN in a faulted or held state). -/
def Obligations.EveryOperationAnswersANextState : Prop :=
  ∀ (i : Instr) (s : State), ∃ t, exec i s = .next t

/-! ### Capture (40_capture.md) -/

/-- R112 (the index is not reset: the spec's decision D8): GATE opens the window and zeroes the
accumulator, in every state; the index, the bits, the sign and all else stay. -/
def Obligations.GateEdgeOpensTheWindow : Prop :=
  ∀ s : State, exec .gate s = .next { s with gateActive := true, acc := 0 }

/-- R113 and R114: an effective CLK stores its bit at the index, adds the weight of that position
times the bit, counts, refreshes the sign from bit 20 of the array after the store, and completes
the frame at the 24th bit; all else stays. The index and the accumulator are inside their ranges, as
in every reachable state; a high line is 1 (the spec's decision D4). -/
def Obligations.EffectiveClockStoresWeighsAndCounts : Prop :=
  ∀ (s : State) (d : Level), s.gateActive = true → s.bitIndex.toNat < 24 → s.acc.toNat ≤ 65537 →
    ∃ t, exec (.clk d) s = .next t
      ∧ (∀ j, j < 24 → t.bits.getLsbD j =
          if j = s.bitIndex.toNat then d else s.bits.getLsbD j)
      ∧ t.acc.toNat = s.acc.toNat + weightOf s.bitIndex.toNat * d.toNat
      ∧ t.sign = t.bits.getLsbD 20
      ∧ (if s.bitIndex.toNat = 23 then t.gateActive = false ∧ t.bitIndex = 0
          else t.gateActive = true ∧ t.bitIndex.toNat = s.bitIndex.toNat + 1)
      ∧ t.withFrameOf s = s

/-- R115: with no window open a CLK changes nothing. -/
def Obligations.ClockWithoutAWindowDoesNothing : Prop :=
  ∀ (s : State) (d : Level), s.gateActive = false → exec (.clk d) s = .next s

/-- R111 (the spec's decisions D5 and D6): SMP takes the new levels and performs the events of the
rising edges it finds; with both lines rising the two events happen one after the other in one of
the two orders. The model's own draw counter is left out here. The index is inside the frame, as in
every reachable state. -/
def Obligations.SampleDerivesTheEdgeEvents : Prop :=
  ∀ (s : State) (g c d : Level), s.bitIndex.toNat < 24 →
    (¬(s.gatePrev = false ∧ g = true) → ¬(s.clkPrev = false ∧ c = true) →
        exec (.smp g c d) s = .next { s with gatePrev := g, clkPrev := c })
      ∧ (s.gatePrev = false ∧ g = true → ¬(s.clkPrev = false ∧ c = true) →
        exec (.smp g c d) s = .next { s with
          gatePrev := g, clkPrev := c, gateActive := true, acc := 0 })
      ∧ (¬(s.gatePrev = false ∧ g = true) → s.clkPrev = false ∧ c = true →
        ∃ t, exec (.smp g c d) s = .next t
          ∧ exec (.clk d) { s with gatePrev := g, clkPrev := c } = .next t)
      ∧ (s.gatePrev = false ∧ g = true → s.clkPrev = false ∧ c = true →
        ∃ t, exec (.smp g c d) s = .next t
          ∧ (execAll [.gate, .clk d] { s with gatePrev := g, clkPrev := c }
                = .next { t with draws := s.draws }
            ∨ execAll [.clk d, .gate] { s with gatePrev := g, clkPrev := c }
                = .next { t with draws := s.draws }))

/-- R208 and R173: a capture operation leaves the sequencer, the record, the output, the reporter's
hold, the input list and the parameters as they are, and, with the index inside the frame, the fault
mark too. -/
def Obligations.CaptureOperationsLeaveTheMainAgentAlone : Prop :=
  ∀ (s : State) (i : Instr), isCapture i = true → s.bitIndex.toNat < 24 →
    ∃ t, exec i s = .next t
      ∧ t.withCaptureOf s = s

/-- R27 item 5: while no window is open, no run of operations without a GATE_EDGE changes what was
captured. -/
def Obligations.CapturedFrameIsFrozenUntilTheNextGate : Prop :=
  ∀ (is : List Instr) (s : State), s.gateActive = false → gateSeen s.gatePrev is = false →
    ∃ t, execAll is s = .next t
      ∧ t.gateActive = false ∧ t.bitIndex = s.bitIndex ∧ t.acc = s.acc ∧ t.bits = s.bits
      ∧ t.sign = s.sign

/-- R114: the clock at index 23 completes the frame. The window closes and the index returns to 0 in
the same step, whatever the gate line does and however many clocks came before; the accumulator, the
bits and the sign keep what the store gave them; and all of it then stays until the next GATE_EDGE.
-/
def Obligations.FrameCompletionPublishesAStableFrame : Prop :=
  ∀ (s : State) (d : Level), s.gateActive = true → s.bitIndex.toNat = 23 → s.acc.toNat ≤ 65537 →
    ∃ t, exec (.clk d) s = .next t
      ∧ t.gateActive = false ∧ t.bitIndex = 0
      ∧ (∀ j, j < 24 → t.bits.getLsbD j = if j = 23 then d else s.bits.getLsbD j)
      ∧ t.acc.toNat = s.acc.toNat + d.toNat
      ∧ t.sign = s.bits.getLsbD 20
      ∧ t.withFrameOf s = s
      ∧ ∀ is : List Instr, gateSeen t.gatePrev is = false →
          ∃ u, execAll is t = .next u ∧ u.gateActive = false ∧ u.bitIndex = 0
            ∧ u.acc = t.acc ∧ u.bits = t.bits ∧ u.sign = t.sign

/-- R116, with R83: a frame whose GATE finds the index at 0. After `k` of its 24 clocks the first
`k` bits stand at their positions and their weighted sum in the accumulator, the sign shows the new
bit 20 once it is stored, and the old one before; after all 24 the window is closed and the
accumulator is the 16-bit field plus the sign bit plus the unit bit. Nothing outside the capture
state changes. -/
def Obligations.AlignedFrameIsCapturedWhole : Prop :=
  ∀ (s : State) (b : FrameBits) (k : Nat), s.bitIndex = 0 → s.sign = s.bits.getLsbD 20 →
    0 < k → k ≤ 24 →
    ∃ t, execAll (.gate :: frameClocks b k) s = .next t
      ∧ (∀ j, j < 24 → t.bits.getLsbD j = if j < k then b.getLsbD j else s.bits.getLsbD j)
      ∧ t.acc.toNat = weighted b 0 k
      ∧ t.sign = (if 20 < k then b.getLsbD 20 else s.sign)
      ∧ (k < 24 → t.gateActive = true ∧ t.bitIndex.toNat = k)
      ∧ (k = 24 → t.gateActive = false ∧ t.bitIndex = 0 ∧ t.bits = b
          ∧ t.acc.toNat = rawField b + (b.getLsbD 20).toNat + (b.getLsbD 23).toNat)
      ∧ t.withFrameOf s = s

/-- R117: a GATE taken at index `k > 0` starts a frame that completes after `24 - k` clocks with its
bits `k` places too high, weighed by the places they landed on, above the left-over bits of the
short frame; the remaining clocks of that transmission change nothing, and the index is then 0, so
that the next frame is aligned. -/
def Obligations.MisalignedFrameCompletesEarlyAndHeals : Prop :=
  ∀ (s : State) (b : FrameBits) (k : Nat), s.bitIndex.toNat = k → 0 < k → k < 24 →
    ∃ t, execAll (.gate :: frameClocks b (24 - k)) s = .next t
      ∧ execAll (.gate :: frameClocks b 24) s = .next t
      ∧ t.gateActive = false ∧ t.bitIndex = 0
      ∧ (∀ j, j < 24 → t.bits.getLsbD j = if j < k then s.bits.getLsbD j else b.getLsbD (j - k))
      ∧ t.acc.toNat = weighted b k (24 - k)

/-- R118, last row: clocks beyond the 24th of a frame are dropped, however many. -/
def Obligations.ExtraClocksAreDropped : Prop :=
  ∀ (s : State) (b : FrameBits) (extra : List Level), s.bitIndex = 0 →
    ∃ t, execAll (.gate :: frameClocks b 24) s = .next t
      ∧ execAll (.gate :: frameClocks b 24 ++ extra.map .clk) s = .next t

/-- R84: two frames that differ only at the unused positions are both accepted, and leave the same
accumulator, the same sign and the same snapshot, and so the main agent does the same with both: the
same record, the same output. -/
def Obligations.UnusedPositionsHaveNoEffect : Prop :=
  ∀ (s : State) (b b' : FrameBits), s.bitIndex = 0 →
    (∀ i, i < 24 → unusedPosition i = false → b.getLsbD i = b'.getLsbD i) →
    ∃ t t', execAll (.gate :: frameClocks b 24) s = .next t
      ∧ execAll (.gate :: frameClocks b' 24) s = .next t'
      ∧ t.bits = b ∧ t'.bits = b' ∧ t.gateActive = false ∧ t'.gateActive = false
      ∧ { t with bits := 0 } = { t' with bits := 0 }
      ∧ t.snapshot = t'.snapshot
      ∧ ∃ u u', exec .main t = .next u ∧ exec .main t' = .next u'
        ∧ { u with bits := 0 } = { u' with bits := 0 }

/-! ### Decode (41_decode.md) -/

/-- R134, with R133: the mm branch shows the five decimal digits of the magnitude, leading zeros
kept, after the sign glyph; it never faults and does not use the correction flag. -/
def Obligations.MillimetreDigitsAreTheDecimalDigits : Prop :=
  ∀ x : Snapshot, x.u = false → x.m.toNat ≤ 65537 →
    ∃ r : Record, decodeMeasurement x = .ok r
      ∧ r[0] = (if x.s then 11 else 12)
      ∧ r[1].toNat ≤ 6
      ∧ (∀ k : Fin 6, k ≠ 0 → r[k].toNat ≤ 9)
      ∧ x.m.toNat = 10000 * r[1].toNat + 1000 * r[2].toNat + 100 * r[3].toNat + 10 * r[4].toNat
          + r[5].toNat
      ∧ ∀ c, decodeMeasurement { x with c := c } = .ok r

/-- R136 and R138, with R133 and R135 (the spec's decisions D13 and D35): the inch branch where it
has a value. Digits 1 to 3 are the thousands, hundreds and tens of half the magnitude itself, digit
4 the ones place after the correction, digit 5 five times the correction flag. -/
def Obligations.InchDigitsKeepTheCarryAsymmetry : Prop :=
  ∀ (x : Snapshot) (h : Nat), x.u = true → h = x.m.toNat / 2 → x.c.toNat ≤ h → h ≤ 9999 →
    ∃ r : Record, decodeMeasurement x = .ok r
      ∧ r[0] = (if x.s then 11 else 12)
      ∧ (∀ k : Fin 6, k ≠ 0 → r[k].toNat ≤ 9)
      ∧ h = 1000 * r[1].toNat + 100 * r[2].toNat + 10 * r[3].toNat + h % 10
      ∧ r[4].toNat = (h - x.c.toNat) % 10
      ∧ r[5].toNat = 5 * x.c.toNat

/-- R137: exactly where Decode has no value, and which of the two reasons it gives. -/
def Obligations.DecodeFaultsExactlyOutsideItsRange : Prop :=
  ∀ x : Snapshot,
    (decodeMeasurement x = .error .hTooLarge ↔ x.u = true ∧ 10000 ≤ x.m.toNat / 2)
      ∧ (decodeMeasurement x = .error .hBelowC ↔
          x.u = true ∧ x.c = true ∧ x.m.toNat / 2 = 0)
      ∧ ((∃ r, decodeMeasurement x = .ok r) ↔
          x.u = false ∨ (x.c.toNat ≤ x.m.toNat / 2 ∧ x.m.toNat / 2 ≤ 9999))

/-- R130, R131 and R132 (the spec's decisions D10, D11 and D12): MAIN in the DECODE phase. With a
window open the record stays; with none the snapshot of this very state is decoded, and the record
and its unit are replaced together, or the fault is recorded with the snapshot and nothing else
changes. -/
def Obligations.DecodePhaseTakesOneAtomicSnapshot : Prop :=
  ∀ s : State, s.fault = none → s.hookBlocked = false → s.phase = .decode →
    let x : Snapshot :=
      { m := s.acc, u := s.bits.getLsbD 23, s := s.sign, c := s.bits.getLsbD 0 }
    (s.gateActive = true →
        exec .main s = .next { s with phase := .scan, cyc := 0, pos := 0 })
      ∧ (∀ r, s.gateActive = false → decodeMeasurement x = .ok r →
        exec .main s = .next { s with
          record := r, recUnit := x.u, phase := .scan, cyc := 0, pos := 0 })
      ∧ (∀ info, s.gateActive = false → decodeMeasurement x = .error info →
        exec .main s = .next { s with fault := some (.decodeRange info x) })

/-- R139, first rows, and the source's property S1: an aligned mm frame, then a DECODE_PHASE. The
display record shows the five digits of `raw` plus the sign bit's weight, after the sign glyph. -/
def Obligations.MillimetreFrameReachesTheRecord : Prop :=
  ∀ (s : State) (raw : Nat) (sgn : Level), raw < 65536 → s.bitIndex = 0 → s.fault = none →
    s.hookBlocked = false → s.phase = .decode →
    ∃ t, execAll (expand (.meas raw sgn false) ++ [.main]) s = .next t
      ∧ t.phase = .scan ∧ t.fault = none ∧ t.recUnit = false
      ∧ t.record[0] = (if sgn then 11 else 12)
      ∧ (∀ k : Fin 6, k ≠ 0 → t.record[k].toNat ≤ 9)
      ∧ raw + sgn.toNat = 10000 * t.record[1].toNat + 1000 * t.record[2].toNat
          + 100 * t.record[3].toNat + 10 * t.record[4].toNat + t.record[5].toNat

/-- R139, inch rows, and R242: an aligned inch frame, then a DECODE_PHASE. Below 10 inches the
record shows half of `raw + sgn + 1`, with the ones place of `(raw - 1) / 2` and a 5 for odd `raw`;
from 10 inches on the fault `h_too_large` is recorded and the record stays. The fault `h_below_c`
never comes. -/
def Obligations.InchFrameReachesTheRecordOrFaults : Prop :=
  ∀ (s : State) (raw : Nat) (sgn : Level), raw < 65536 → s.bitIndex = 0 → s.fault = none →
    s.hookBlocked = false → s.phase = .decode →
    ∃ t, execAll (expand (.meas raw sgn true) ++ [.main]) s = .next t
      ∧ (if raw + sgn.toNat + 1 < 20000 then
          t.phase = .scan ∧ t.fault = none ∧ t.recUnit = true
            ∧ t.record[0] = (if sgn then 11 else 12)
            ∧ (raw + sgn.toNat + 1) / 2 / 10 = 100 * t.record[1].toNat + 10 * t.record[2].toNat
                + t.record[3].toNat
            ∧ (∀ k : Fin 6, k ≠ 0 → t.record[k].toNat ≤ 9)
            ∧ (raw % 2 = 1 → t.record[4].toNat = (raw - 1) / 2 % 10 ∧ t.record[5] = 5)
            ∧ (raw % 2 = 0 → t.record[4].toNat = (raw + sgn.toNat + 1) / 2 % 10
                ∧ t.record[5] = 0)
        else
          t.phase = .decode ∧ t.record = s.record ∧ t.recUnit = s.recUnit
            ∧ ∃ x, t.fault = some (.decodeRange .hTooLarge x) ∧ x.m.toNat = raw + sgn.toNat + 1)

/-! ### The display (42_display.md) -/

/-- R150, R92 and R155 (the spec's decisions D19 to D23): MAIN in the SCAN phase, for a position in
the display and a glyph index in the table. The word is the glyph pattern, with the decimal-point
mask at the position R153 gives, and the select word; it is emitted and latched, then the dwell;
then the sequencer advances. All else stays. -/
def Obligations.ScanStepRendersOnePosition : Prop :=
  ∀ (s : State) (hp : s.pos.toNat < 6) (hk : s.record[s.pos.toNat].toNat < 13),
    s.fault = none → s.hookBlocked = false → s.phase = .scan →
    let unit := match s.board.unitSrc with
      | .latched => s.recUnit
      | .live => s.bits.getLsbD 23
    let q := if unit then s.board.dpPosInch else s.board.dpPosMm
    let w := (if s.pos = q then s.board.glyph[s.record[s.pos.toNat].toNat] ||| s.board.glyph[10]
        else s.board.glyph[s.record[s.pos.toNat].toNat]) ||| s.board.anode[s.pos.toNat]
    exec .main s = .next { s with
      out := .dwell :: .word w :: s.out
      outLatch := w
      pos := if s.pos.toNat < 5 then s.pos + 1 else 0
      cyc := if s.pos.toNat < 5 then s.cyc else if s.cyc.toNat < 430 then s.cyc + 1 else 0
      phase := if s.pos.toNat < 5 then .scan else if s.cyc.toNat < 430 then .scan else .decode }

/-- R92 and R89: under the constraint on the tables, exactly one select bit stands in the word of a
position, the one of that position. -/
def Obligations.WordSelectsExactlyItsPosition : Prop :=
  ∀ (s : State) (p q : Fin 6), s.board.wf = true → s.record[p].toNat < 13 →
    ((s.positionWord p &&& s.board.anode[q] ≠ 0) ↔ p = q)

/-- R89 and R153: the default tables and positions meet the constraint every instance must meet. -/
def Obligations.DefaultTablesMeetTheConstraint : Prop :=
  defaultBoard.wf = true
    ∧ (∀ p : Fin 6, defaultBoard.anode[p] = 1#16 <<< (8 + p.val))
    ∧ State.reset.board = defaultBoard

/-- R156: six MAIN from position 0 of a scan pass emit the six words of the record in ascending
order of position, each with its dwell, and change only the output and the sequencer. -/
def Obligations.RefreshCycleShowsTheSixDigits : Prop :=
  ∀ s : State, s.Good → s.hookBlocked = false → s.phase = .scan → s.pos = 0 →
    ∃ t, execAll (List.replicate 6 .main) s = .next t
      ∧ t.outTrace = s.outTrace ++ s.cycleEvents
      ∧ t.pos = 0
      ∧ (if s.cyc.toNat < 430 then t.phase = .scan ∧ t.cyc.toNat = s.cyc.toNat + 1
          else t.phase = .decode ∧ t.cyc = 0)
      ∧ t.withScanOf s = s

/-- R157: one scan pass, with any capture operations interleaved in any way. With the unit latched
the pass emits the same six words 431 times and ends in the DECODE phase with the record unchanged.
-/
def Obligations.ScanPassIsUndisturbedByCapture : Prop :=
  ∀ (is : List Instr) (s : State), s.Good → s.hookBlocked = false → s.phase = .scan → s.cyc = 0 →
    s.pos = 0 → s.board.unitSrc = .latched →
    (∀ i ∈ is, i = .main ∨ isCapture i = true) → mainCount is = 2586 →
    ∃ t, execAll is s = .next t
      ∧ t.outTrace = s.outTrace ++ (List.replicate 431 s.cycleEvents).flatten
      ∧ t.phase = .decode ∧ t.cyc = 0 ∧ t.pos = 0
      ∧ t.record = s.record ∧ t.recUnit = s.recUnit ∧ t.fault = none

/-- R94: what a word is on the serial line, and R160: what the chain makes of it. Sixteen bits, most
significant first, then the latch; the outputs keep the previous word up to the latch and show the
new one after it. -/
def Obligations.DriverShiftsMostSignificantBitFirst : Prop :=
  ∀ (w : Word16) (c : Chain),
    (wordBits w).length = 17
      ∧ (∀ i, i < 16 → (wordBits w)[i]? = some (.shift (w.getLsbD (15 - i))))
      ∧ (wordBits w)[16]? = some .latch
      ∧ (∀ n, n ≤ 16 → (c.run ((wordBits w).take n)).outputs = c.outputs)
      ∧ c.run (wordBits w) = ⟨w, w⟩

/-- R36 at bit level: whatever the chain held, shifting the serial form of the output trace through
it leaves on its outputs the word that `out_latch` holds. -/
def Obligations.ChainOutputsFollowTheTrace : Prop :=
  ∀ (s : State) (c : Chain), s.outputInv →
    (c.run (serialTrace s.outTrace)).outputs = if s.out = [] then c.outputs else s.outLatch

/-- With the unit latched, what a SCAN_STEP shows depends on nothing a capture operation writes: two
states that agree on everything but the capture state and the front end emit the same. -/
def Obligations.DisplayIgnoresCaptureState : Prop :=
  ∀ s s' : State, s.phase = .scan → s.board.unitSrc = .latched →
    s'.withCaptureOf s = s →
    ∃ t t', exec .main s = .next t ∧ exec .main s' = .next t'
      ∧ t'.withCaptureOf t = t

/-! ### The main loop, faults and reset (43_mainloop.md, 60_exceptions.md) -/

/-- R171 and R190: MAIN is no step while a fault is recorded or the reporter holds the main agent.
That "no step" leaves the state as it is, so that a run can go on, is the model's reading
(assumption 4). -/
def Obligations.StoppedMainAgentTakesNoStep : Prop :=
  ∀ s : State, s.fault ≠ none ∨ s.hookBlocked = true → exec .main s = .next s

/-- R172: the sequencer moves through its table and in no other way, whatever was captured; only a
fault stops it. -/
def Obligations.SequencerFollowsItsTable : Prop :=
  ∀ s : State, s.sequencerInv → s.fault = none → s.hookBlocked = false →
    ∃ t, exec .main s = .next t
      ∧ (t.fault = none →
          (t.phase, t.cyc.toNat, t.pos.toNat) =
            if s.phase = .decode then (.scan, 0, 0)
            else if s.pos.toNat < 5 then (.scan, s.cyc.toNat, s.pos.toNat + 1)
            else if s.cyc.toNat < 430 then (.scan, s.cyc.toNat + 1, 0)
            else (.decode, 0, 0))
      ∧ (t.fault ≠ none → { t with fault := none } = s)

/-- R178, R172: from any point of a scan pass the main agent is back at a DECODE_PHASE after the
SCAN_STEPs that are left of the pass, at most 2586. -/
def Obligations.DecodeComesWithinOnePass : Prop :=
  ∀ s : State, s.Good → s.hookBlocked = false → s.phase = .scan →
    s.scanStepsLeft ≤ 2586
      ∧ ∃ t, execAll (List.replicate s.scanStepsLeft .main) s = .next t
        ∧ t.phase = .decode ∧ t.fault = none ∧ t.record = s.record ∧ t.recUnit = s.recUnit

/-- R211 and R40: the main agent writes no capture state, no input and no parameter. -/
def Obligations.MainAgentLeavesCaptureStateAlone : Prop :=
  ∀ s : State, ∃ t, exec .main s = .next t
    ∧ t.withMainOf s = s

/-- R201: each model-level fault, from a state with none recorded: when it is raised, by which
operation, what it records, and that nothing else changes. F3 names the table and the index. Of the
two tables SCAN_STEP reads at a position outside the display, the model names ANODE (assumption
11). -/
def Obligations.ModelFaultsAreRecordedAndChangeNothingElse : Prop :=
  ∀ s : State, s.fault = none →
    (s.hookBlocked = false → s.phase = .decode → s.gateActive = false →
        s.bits.getLsbD 23 = true → 10000 ≤ s.acc.toNat / 2 →
        exec .main s = .next { s with
          fault := some (.decodeRange .hTooLarge ⟨s.acc, true, s.sign, s.bits.getLsbD 0⟩) })
      ∧ (s.hookBlocked = false → s.phase = .decode → s.gateActive = false →
        s.bits.getLsbD 23 = true → s.bits.getLsbD 0 = true → s.acc.toNat / 2 = 0 →
        exec .main s = .next { s with
          fault := some (.decodeRange .hBelowC ⟨s.acc, true, s.sign, true⟩) })
      ∧ (∀ hp : s.pos.toNat < 6, s.hookBlocked = false → s.phase = .scan →
        13 ≤ s.record[s.pos.toNat].toNat →
        exec .main s = .next { s with
          fault := some (.tableRange .glyph s.record[s.pos.toNat].toNat) })
      ∧ (s.hookBlocked = false → s.phase = .scan → 6 ≤ s.pos.toNat →
        exec .main s = .next { s with fault := some (.tableRange .anode s.pos.toNat) })
      ∧ (∀ d, s.gateActive = true → 24 ≤ s.bitIndex.toNat →
        exec (.clk d) s = .next { s with fault := some (.tableRange .w s.bitIndex.toNat) })

/-- R202: an operation that raises a fault changes nothing but the mark, and the mark then stays
through every operation but RESET. That it stays the same mark, should another operation raise one, is
the model's reading (assumption 5). -/
def Obligations.FaultChangesOnlyTheMarkAndStaysUntilReset : Prop :=
  (∀ (i : Instr) (s t : State) (f : Fault), s.fault = none → exec i s = .next t →
      t.fault = some f → t = { s with fault := some f })
    ∧ (∀ (i : Instr) (s : State) (f : Fault), s.fault = some f →
      ∃ t, exec i s = .next t ∧ (i ≠ .reset → t.fault = some f) ∧ (i = .reset → t.fault = none))

/-- R175 (the spec's decisions D25 and D26): RESET in any state, a faulted one too. Every element
takes the value R39 gives it and the output trace is empty (of `out_latch` R39 says nothing); clocks
that are left of a transmission are dropped; the next GATE starts a frame at position 0, which is
captured whole; and no other operation clears a fault. -/
def Obligations.ResetRestoresEveryElement : Prop :=
  ∀ s : State, ∃ t, exec .reset s = .next t
    ∧ t.gateActive = false ∧ t.bitIndex = 0 ∧ t.acc = 0 ∧ t.bits = 0 ∧ t.sign = false
    ∧ t.gatePrev = true ∧ t.clkPrev = true
    ∧ t.record = #v[12, 0, 0, 0, 0, 0] ∧ t.recUnit = false
    ∧ t.phase = .decode ∧ t.cyc = 0 ∧ t.pos = 0
    ∧ t.fault = none ∧ t.outTrace = []
    ∧ (∀ left : List Level, execAll (left.map .clk) t = .next t)
    ∧ (∀ (left : List Level) (b : FrameBits),
        ∃ u, execAll (left.map .clk ++ .gate :: frameClocks b 24) t = .next u
          ∧ u.bits = b ∧ u.gateActive = false ∧ u.bitIndex = 0)
    ∧ (∀ (i : Instr) (u : State), i ≠ .reset → s.fault ≠ none → exec i s = .next u →
        u.fault ≠ none)

/-- What RESET leaves alone, the model's own: the environment's input list goes on and the
parameters are fixed for the life of the hardware (assumptions 1 and 9); the reporter no longer
holds the main agent (assumption 6); one free value is drawn for `out_latch` (assumption 8). -/
def Obligations.ResetKeepsTheInputListAndTheParameters : Prop :=
  ∀ s : State, ∃ t, exec .reset s = .next t
    ∧ t.pending = s.pending ∧ t.board = s.board ∧ t.hookBlocked = false ∧ t.draws = s.draws + 1

/-- R39: the values State.reset holds for every element R39 gives a value (the spec's decision D25;
`out_latch`, for which it gives none, is left out). -/
def Obligations.StateAfterResetIsAsListed : Prop :=
  let s := State.reset
  s.gateActive = false ∧ s.bitIndex = 0 ∧ s.acc = 0 ∧ s.bits = 0 ∧ s.sign = false
    ∧ s.gatePrev = true ∧ s.clkPrev = true
    ∧ s.record = #v[12, 0, 0, 0, 0, 0] ∧ s.recUnit = false
    ∧ s.phase = .decode ∧ s.cyc = 0 ∧ s.pos = 0 ∧ s.fault = none ∧ s.outTrace = []

/-! ### Invariants -/

/-- R27, R31, R32, R36, R53, R154: the invariant holds at reset, and no fault is recorded. The values at
reset are the spec's decision D25 (assumption 10). The clause on the reporter's hold is about the
model's own bit and hook point, and that there is no hold at reset is the model's choice
(assumption 6). -/
def Obligations.InvariantHoldsAtReset : Prop :=
  State.reset.Inv ∧ State.reset.Good

/-- R27, R31, R32, R36, R53, R154: every step keeps the invariant, whatever stands on the input list.
The clause that the reporter's hold stands only at the hook point (R186, R190) is about the model's own
bit and the model's form of that point, its choice (assumption 6). -/
def Obligations.EveryStepKeepsTheInvariant : Prop :=
  ∀ s t : State, s.Inv → step s = .next t → t.Inv

/-! ### The model's own choices beside R96 and R111, and the reporter's hold -/

/-- A reserved byte that is next on the input list is refused by the step, as the first of the bytes
given to the decoder. R96 speaks of the trace decoder; that a step refuses too, and names position 0,
is the model's choice (assumption 14). -/
def Obligations.StepRefusesAReservedByteByName : Prop :=
  ∀ (s : State) (b : Byte) (rest : List Stimulus), s.pending = .op b :: rest →
    decodeByte b = none → step s = .refused (.reservedStimulus b 0)

/-- With both lines rising in one sample, the order of the two events is the free value of that
sample's draw, and the draw is counted, so that the next such sample has an order of its own. R111
leaves the order open; a fresh one for each sample is the model's choice (assumptions 7 and 23). -/
def Obligations.SimultaneousEdgesTakeAFreshOrder : Prop :=
  ∀ (s : State) (g c d : Level), s.bitIndex.toNat < 24 → s.gatePrev = false ∧ g = true →
    s.clkPrev = false ∧ c = true →
    ∃ t, exec (.smp g c d) s = .next t
      ∧ execAll
          (match Config.simulOrder s.draws with
            | .gateFirst => [.gate, .clk d]
            | .clockFirst => [.clk d, .gate])
          { s with gatePrev := g, clkPrev := c, draws := s.draws + 1 } = .next t

/-- R190: while the reporter holds the main agent, any run of MAIN and capture operations leaves the
display as it is, the word on the driver's outputs among it, and the main agent held where it was; the
capture agent goes on. The hold as a bit of the state is the model's choice (assumption 6), and so is a
MAIN that leaves the state as it is (assumption 4). -/
def Obligations.HeldMainAgentKeepsTheDisplay : Prop :=
  ∀ (is : List Instr) (s : State), s.hookBlocked = true → (∀ i ∈ is, i ≠ .reset) →
    ∃ t, execAll is s = .next t
      ∧ { t with fault := s.fault }.withCaptureOf s = s
      ∧ execAll (is.filter isCapture) s = .next t
end

