-- ==== Sys2Proof/Laws/State.lean ====
section
/-! SUPPORT. One lemma per field per named update of the state (all true by `rfl`), so that no later
proof unfolds a record update. -/

namespace Sys2Proof.Machine

variable (s : State)

/-! ### openWindow -/

@[simp] theorem State.openWindow_gateActive : (s.openWindow).gateActive = true := rfl
@[simp] theorem State.openWindow_bitIndex : (s.openWindow).bitIndex = s.bitIndex := rfl
@[simp] theorem State.openWindow_acc : (s.openWindow).acc = 0 := rfl
@[simp] theorem State.openWindow_bits : (s.openWindow).bits = s.bits := rfl
@[simp] theorem State.openWindow_sign : (s.openWindow).sign = s.sign := rfl
@[simp] theorem State.openWindow_gatePrev : (s.openWindow).gatePrev = s.gatePrev := rfl
@[simp] theorem State.openWindow_clkPrev : (s.openWindow).clkPrev = s.clkPrev := rfl
@[simp] theorem State.openWindow_record : (s.openWindow).record = s.record := rfl
@[simp] theorem State.openWindow_recUnit : (s.openWindow).recUnit = s.recUnit := rfl
@[simp] theorem State.openWindow_phase : (s.openWindow).phase = s.phase := rfl
@[simp] theorem State.openWindow_cyc : (s.openWindow).cyc = s.cyc := rfl
@[simp] theorem State.openWindow_pos : (s.openWindow).pos = s.pos := rfl
@[simp] theorem State.openWindow_fault : (s.openWindow).fault = s.fault := rfl
@[simp] theorem State.openWindow_outLatch : (s.openWindow).outLatch = s.outLatch := rfl
@[simp] theorem State.openWindow_out : (s.openWindow).out = s.out := rfl
@[simp] theorem State.openWindow_hookBlocked : (s.openWindow).hookBlocked = s.hookBlocked := rfl
@[simp] theorem State.openWindow_pending : (s.openWindow).pending = s.pending := rfl
@[simp] theorem State.openWindow_draws : (s.openWindow).draws = s.draws := rfl
@[simp] theorem State.openWindow_board : (s.openWindow).board = s.board := rfl

/-! ### storeBit -/

@[simp] theorem State.storeBit_gateActive (b : FrameBits) (a : Magnitude) (n : Bool) : (s.storeBit b a n).gateActive = s.gateActive := rfl
@[simp] theorem State.storeBit_bitIndex (b : FrameBits) (a : Magnitude) (n : Bool) : (s.storeBit b a n).bitIndex = s.bitIndex + 1 := rfl
@[simp] theorem State.storeBit_acc (b : FrameBits) (a : Magnitude) (n : Bool) : (s.storeBit b a n).acc = a := rfl
@[simp] theorem State.storeBit_bits (b : FrameBits) (a : Magnitude) (n : Bool) : (s.storeBit b a n).bits = b := rfl
@[simp] theorem State.storeBit_sign (b : FrameBits) (a : Magnitude) (n : Bool) : (s.storeBit b a n).sign = n := rfl
@[simp] theorem State.storeBit_gatePrev (b : FrameBits) (a : Magnitude) (n : Bool) : (s.storeBit b a n).gatePrev = s.gatePrev := rfl
@[simp] theorem State.storeBit_clkPrev (b : FrameBits) (a : Magnitude) (n : Bool) : (s.storeBit b a n).clkPrev = s.clkPrev := rfl
@[simp] theorem State.storeBit_record (b : FrameBits) (a : Magnitude) (n : Bool) : (s.storeBit b a n).record = s.record := rfl
@[simp] theorem State.storeBit_recUnit (b : FrameBits) (a : Magnitude) (n : Bool) : (s.storeBit b a n).recUnit = s.recUnit := rfl
@[simp] theorem State.storeBit_phase (b : FrameBits) (a : Magnitude) (n : Bool) : (s.storeBit b a n).phase = s.phase := rfl
@[simp] theorem State.storeBit_cyc (b : FrameBits) (a : Magnitude) (n : Bool) : (s.storeBit b a n).cyc = s.cyc := rfl
@[simp] theorem State.storeBit_pos (b : FrameBits) (a : Magnitude) (n : Bool) : (s.storeBit b a n).pos = s.pos := rfl
@[simp] theorem State.storeBit_fault (b : FrameBits) (a : Magnitude) (n : Bool) : (s.storeBit b a n).fault = s.fault := rfl
@[simp] theorem State.storeBit_outLatch (b : FrameBits) (a : Magnitude) (n : Bool) : (s.storeBit b a n).outLatch = s.outLatch := rfl
@[simp] theorem State.storeBit_out (b : FrameBits) (a : Magnitude) (n : Bool) : (s.storeBit b a n).out = s.out := rfl
@[simp] theorem State.storeBit_hookBlocked (b : FrameBits) (a : Magnitude) (n : Bool) : (s.storeBit b a n).hookBlocked = s.hookBlocked := rfl
@[simp] theorem State.storeBit_pending (b : FrameBits) (a : Magnitude) (n : Bool) : (s.storeBit b a n).pending = s.pending := rfl
@[simp] theorem State.storeBit_draws (b : FrameBits) (a : Magnitude) (n : Bool) : (s.storeBit b a n).draws = s.draws := rfl
@[simp] theorem State.storeBit_board (b : FrameBits) (a : Magnitude) (n : Bool) : (s.storeBit b a n).board = s.board := rfl

/-! ### closeWindow -/

@[simp] theorem State.closeWindow_gateActive : (s.closeWindow).gateActive = false := rfl
@[simp] theorem State.closeWindow_bitIndex : (s.closeWindow).bitIndex = 0 := rfl
@[simp] theorem State.closeWindow_acc : (s.closeWindow).acc = s.acc := rfl
@[simp] theorem State.closeWindow_bits : (s.closeWindow).bits = s.bits := rfl
@[simp] theorem State.closeWindow_sign : (s.closeWindow).sign = s.sign := rfl
@[simp] theorem State.closeWindow_gatePrev : (s.closeWindow).gatePrev = s.gatePrev := rfl
@[simp] theorem State.closeWindow_clkPrev : (s.closeWindow).clkPrev = s.clkPrev := rfl
@[simp] theorem State.closeWindow_record : (s.closeWindow).record = s.record := rfl
@[simp] theorem State.closeWindow_recUnit : (s.closeWindow).recUnit = s.recUnit := rfl
@[simp] theorem State.closeWindow_phase : (s.closeWindow).phase = s.phase := rfl
@[simp] theorem State.closeWindow_cyc : (s.closeWindow).cyc = s.cyc := rfl
@[simp] theorem State.closeWindow_pos : (s.closeWindow).pos = s.pos := rfl
@[simp] theorem State.closeWindow_fault : (s.closeWindow).fault = s.fault := rfl
@[simp] theorem State.closeWindow_outLatch : (s.closeWindow).outLatch = s.outLatch := rfl
@[simp] theorem State.closeWindow_out : (s.closeWindow).out = s.out := rfl
@[simp] theorem State.closeWindow_hookBlocked : (s.closeWindow).hookBlocked = s.hookBlocked := rfl
@[simp] theorem State.closeWindow_pending : (s.closeWindow).pending = s.pending := rfl
@[simp] theorem State.closeWindow_draws : (s.closeWindow).draws = s.draws := rfl
@[simp] theorem State.closeWindow_board : (s.closeWindow).board = s.board := rfl

/-! ### setLevels -/

@[simp] theorem State.setLevels_gateActive (g c : Level) : (s.setLevels g c).gateActive = s.gateActive := rfl
@[simp] theorem State.setLevels_bitIndex (g c : Level) : (s.setLevels g c).bitIndex = s.bitIndex := rfl
@[simp] theorem State.setLevels_acc (g c : Level) : (s.setLevels g c).acc = s.acc := rfl
@[simp] theorem State.setLevels_bits (g c : Level) : (s.setLevels g c).bits = s.bits := rfl
@[simp] theorem State.setLevels_sign (g c : Level) : (s.setLevels g c).sign = s.sign := rfl
@[simp] theorem State.setLevels_gatePrev (g c : Level) : (s.setLevels g c).gatePrev = g := rfl
@[simp] theorem State.setLevels_clkPrev (g c : Level) : (s.setLevels g c).clkPrev = c := rfl
@[simp] theorem State.setLevels_record (g c : Level) : (s.setLevels g c).record = s.record := rfl
@[simp] theorem State.setLevels_recUnit (g c : Level) : (s.setLevels g c).recUnit = s.recUnit := rfl
@[simp] theorem State.setLevels_phase (g c : Level) : (s.setLevels g c).phase = s.phase := rfl
@[simp] theorem State.setLevels_cyc (g c : Level) : (s.setLevels g c).cyc = s.cyc := rfl
@[simp] theorem State.setLevels_pos (g c : Level) : (s.setLevels g c).pos = s.pos := rfl
@[simp] theorem State.setLevels_fault (g c : Level) : (s.setLevels g c).fault = s.fault := rfl
@[simp] theorem State.setLevels_outLatch (g c : Level) : (s.setLevels g c).outLatch = s.outLatch := rfl
@[simp] theorem State.setLevels_out (g c : Level) : (s.setLevels g c).out = s.out := rfl
@[simp] theorem State.setLevels_hookBlocked (g c : Level) : (s.setLevels g c).hookBlocked = s.hookBlocked := rfl
@[simp] theorem State.setLevels_pending (g c : Level) : (s.setLevels g c).pending = s.pending := rfl
@[simp] theorem State.setLevels_draws (g c : Level) : (s.setLevels g c).draws = s.draws := rfl
@[simp] theorem State.setLevels_board (g c : Level) : (s.setLevels g c).board = s.board := rfl

/-! ### draw -/

@[simp] theorem State.draw_gateActive : (s.draw).gateActive = s.gateActive := rfl
@[simp] theorem State.draw_bitIndex : (s.draw).bitIndex = s.bitIndex := rfl
@[simp] theorem State.draw_acc : (s.draw).acc = s.acc := rfl
@[simp] theorem State.draw_bits : (s.draw).bits = s.bits := rfl
@[simp] theorem State.draw_sign : (s.draw).sign = s.sign := rfl
@[simp] theorem State.draw_gatePrev : (s.draw).gatePrev = s.gatePrev := rfl
@[simp] theorem State.draw_clkPrev : (s.draw).clkPrev = s.clkPrev := rfl
@[simp] theorem State.draw_record : (s.draw).record = s.record := rfl
@[simp] theorem State.draw_recUnit : (s.draw).recUnit = s.recUnit := rfl
@[simp] theorem State.draw_phase : (s.draw).phase = s.phase := rfl
@[simp] theorem State.draw_cyc : (s.draw).cyc = s.cyc := rfl
@[simp] theorem State.draw_pos : (s.draw).pos = s.pos := rfl
@[simp] theorem State.draw_fault : (s.draw).fault = s.fault := rfl
@[simp] theorem State.draw_outLatch : (s.draw).outLatch = s.outLatch := rfl
@[simp] theorem State.draw_out : (s.draw).out = s.out := rfl
@[simp] theorem State.draw_hookBlocked : (s.draw).hookBlocked = s.hookBlocked := rfl
@[simp] theorem State.draw_pending : (s.draw).pending = s.pending := rfl
@[simp] theorem State.draw_draws : (s.draw).draws = s.draws + 1 := rfl
@[simp] theorem State.draw_board : (s.draw).board = s.board := rfl

/-! ### setRecord -/

@[simp] theorem State.setRecord_gateActive (r : Record) (u : Bool) : (s.setRecord r u).gateActive = s.gateActive := rfl
@[simp] theorem State.setRecord_bitIndex (r : Record) (u : Bool) : (s.setRecord r u).bitIndex = s.bitIndex := rfl
@[simp] theorem State.setRecord_acc (r : Record) (u : Bool) : (s.setRecord r u).acc = s.acc := rfl
@[simp] theorem State.setRecord_bits (r : Record) (u : Bool) : (s.setRecord r u).bits = s.bits := rfl
@[simp] theorem State.setRecord_sign (r : Record) (u : Bool) : (s.setRecord r u).sign = s.sign := rfl
@[simp] theorem State.setRecord_gatePrev (r : Record) (u : Bool) : (s.setRecord r u).gatePrev = s.gatePrev := rfl
@[simp] theorem State.setRecord_clkPrev (r : Record) (u : Bool) : (s.setRecord r u).clkPrev = s.clkPrev := rfl
@[simp] theorem State.setRecord_record (r : Record) (u : Bool) : (s.setRecord r u).record = r := rfl
@[simp] theorem State.setRecord_recUnit (r : Record) (u : Bool) : (s.setRecord r u).recUnit = u := rfl
@[simp] theorem State.setRecord_phase (r : Record) (u : Bool) : (s.setRecord r u).phase = s.phase := rfl
@[simp] theorem State.setRecord_cyc (r : Record) (u : Bool) : (s.setRecord r u).cyc = s.cyc := rfl
@[simp] theorem State.setRecord_pos (r : Record) (u : Bool) : (s.setRecord r u).pos = s.pos := rfl
@[simp] theorem State.setRecord_fault (r : Record) (u : Bool) : (s.setRecord r u).fault = s.fault := rfl
@[simp] theorem State.setRecord_outLatch (r : Record) (u : Bool) : (s.setRecord r u).outLatch = s.outLatch := rfl
@[simp] theorem State.setRecord_out (r : Record) (u : Bool) : (s.setRecord r u).out = s.out := rfl
@[simp] theorem State.setRecord_hookBlocked (r : Record) (u : Bool) : (s.setRecord r u).hookBlocked = s.hookBlocked := rfl
@[simp] theorem State.setRecord_pending (r : Record) (u : Bool) : (s.setRecord r u).pending = s.pending := rfl
@[simp] theorem State.setRecord_draws (r : Record) (u : Bool) : (s.setRecord r u).draws = s.draws := rfl
@[simp] theorem State.setRecord_board (r : Record) (u : Bool) : (s.setRecord r u).board = s.board := rfl

/-! ### setSequencer -/

@[simp] theorem State.setSequencer_gateActive (h : Phase) (y : CycleCount) (p : Position) : (s.setSequencer h y p).gateActive = s.gateActive := rfl
@[simp] theorem State.setSequencer_bitIndex (h : Phase) (y : CycleCount) (p : Position) : (s.setSequencer h y p).bitIndex = s.bitIndex := rfl
@[simp] theorem State.setSequencer_acc (h : Phase) (y : CycleCount) (p : Position) : (s.setSequencer h y p).acc = s.acc := rfl
@[simp] theorem State.setSequencer_bits (h : Phase) (y : CycleCount) (p : Position) : (s.setSequencer h y p).bits = s.bits := rfl
@[simp] theorem State.setSequencer_sign (h : Phase) (y : CycleCount) (p : Position) : (s.setSequencer h y p).sign = s.sign := rfl
@[simp] theorem State.setSequencer_gatePrev (h : Phase) (y : CycleCount) (p : Position) : (s.setSequencer h y p).gatePrev = s.gatePrev := rfl
@[simp] theorem State.setSequencer_clkPrev (h : Phase) (y : CycleCount) (p : Position) : (s.setSequencer h y p).clkPrev = s.clkPrev := rfl
@[simp] theorem State.setSequencer_record (h : Phase) (y : CycleCount) (p : Position) : (s.setSequencer h y p).record = s.record := rfl
@[simp] theorem State.setSequencer_recUnit (h : Phase) (y : CycleCount) (p : Position) : (s.setSequencer h y p).recUnit = s.recUnit := rfl
@[simp] theorem State.setSequencer_phase (h : Phase) (y : CycleCount) (p : Position) : (s.setSequencer h y p).phase = h := rfl
@[simp] theorem State.setSequencer_cyc (h : Phase) (y : CycleCount) (p : Position) : (s.setSequencer h y p).cyc = y := rfl
@[simp] theorem State.setSequencer_pos (h : Phase) (y : CycleCount) (p : Position) : (s.setSequencer h y p).pos = p := rfl
@[simp] theorem State.setSequencer_fault (h : Phase) (y : CycleCount) (p : Position) : (s.setSequencer h y p).fault = s.fault := rfl
@[simp] theorem State.setSequencer_outLatch (h : Phase) (y : CycleCount) (p : Position) : (s.setSequencer h y p).outLatch = s.outLatch := rfl
@[simp] theorem State.setSequencer_out (h : Phase) (y : CycleCount) (p : Position) : (s.setSequencer h y p).out = s.out := rfl
@[simp] theorem State.setSequencer_hookBlocked (h : Phase) (y : CycleCount) (p : Position) : (s.setSequencer h y p).hookBlocked = s.hookBlocked := rfl
@[simp] theorem State.setSequencer_pending (h : Phase) (y : CycleCount) (p : Position) : (s.setSequencer h y p).pending = s.pending := rfl
@[simp] theorem State.setSequencer_draws (h : Phase) (y : CycleCount) (p : Position) : (s.setSequencer h y p).draws = s.draws := rfl
@[simp] theorem State.setSequencer_board (h : Phase) (y : CycleCount) (p : Position) : (s.setSequencer h y p).board = s.board := rfl

/-! ### emitWord -/

@[simp] theorem State.emitWord_gateActive (w : Word16) : (s.emitWord w).gateActive = s.gateActive := rfl
@[simp] theorem State.emitWord_bitIndex (w : Word16) : (s.emitWord w).bitIndex = s.bitIndex := rfl
@[simp] theorem State.emitWord_acc (w : Word16) : (s.emitWord w).acc = s.acc := rfl
@[simp] theorem State.emitWord_bits (w : Word16) : (s.emitWord w).bits = s.bits := rfl
@[simp] theorem State.emitWord_sign (w : Word16) : (s.emitWord w).sign = s.sign := rfl
@[simp] theorem State.emitWord_gatePrev (w : Word16) : (s.emitWord w).gatePrev = s.gatePrev := rfl
@[simp] theorem State.emitWord_clkPrev (w : Word16) : (s.emitWord w).clkPrev = s.clkPrev := rfl
@[simp] theorem State.emitWord_record (w : Word16) : (s.emitWord w).record = s.record := rfl
@[simp] theorem State.emitWord_recUnit (w : Word16) : (s.emitWord w).recUnit = s.recUnit := rfl
@[simp] theorem State.emitWord_phase (w : Word16) : (s.emitWord w).phase = s.phase := rfl
@[simp] theorem State.emitWord_cyc (w : Word16) : (s.emitWord w).cyc = s.cyc := rfl
@[simp] theorem State.emitWord_pos (w : Word16) : (s.emitWord w).pos = s.pos := rfl
@[simp] theorem State.emitWord_fault (w : Word16) : (s.emitWord w).fault = s.fault := rfl
@[simp] theorem State.emitWord_outLatch (w : Word16) : (s.emitWord w).outLatch = w := rfl
@[simp] theorem State.emitWord_out (w : Word16) : (s.emitWord w).out = .dwell :: .word w :: s.out := rfl
@[simp] theorem State.emitWord_hookBlocked (w : Word16) : (s.emitWord w).hookBlocked = s.hookBlocked := rfl
@[simp] theorem State.emitWord_pending (w : Word16) : (s.emitWord w).pending = s.pending := rfl
@[simp] theorem State.emitWord_draws (w : Word16) : (s.emitWord w).draws = s.draws := rfl
@[simp] theorem State.emitWord_board (w : Word16) : (s.emitWord w).board = s.board := rfl

/-! ### setPending -/

@[simp] theorem State.setPending_gateActive (l : List Stimulus) : (s.setPending l).gateActive = s.gateActive := rfl
@[simp] theorem State.setPending_bitIndex (l : List Stimulus) : (s.setPending l).bitIndex = s.bitIndex := rfl
@[simp] theorem State.setPending_acc (l : List Stimulus) : (s.setPending l).acc = s.acc := rfl
@[simp] theorem State.setPending_bits (l : List Stimulus) : (s.setPending l).bits = s.bits := rfl
@[simp] theorem State.setPending_sign (l : List Stimulus) : (s.setPending l).sign = s.sign := rfl
@[simp] theorem State.setPending_gatePrev (l : List Stimulus) : (s.setPending l).gatePrev = s.gatePrev := rfl
@[simp] theorem State.setPending_clkPrev (l : List Stimulus) : (s.setPending l).clkPrev = s.clkPrev := rfl
@[simp] theorem State.setPending_record (l : List Stimulus) : (s.setPending l).record = s.record := rfl
@[simp] theorem State.setPending_recUnit (l : List Stimulus) : (s.setPending l).recUnit = s.recUnit := rfl
@[simp] theorem State.setPending_phase (l : List Stimulus) : (s.setPending l).phase = s.phase := rfl
@[simp] theorem State.setPending_cyc (l : List Stimulus) : (s.setPending l).cyc = s.cyc := rfl
@[simp] theorem State.setPending_pos (l : List Stimulus) : (s.setPending l).pos = s.pos := rfl
@[simp] theorem State.setPending_fault (l : List Stimulus) : (s.setPending l).fault = s.fault := rfl
@[simp] theorem State.setPending_outLatch (l : List Stimulus) : (s.setPending l).outLatch = s.outLatch := rfl
@[simp] theorem State.setPending_out (l : List Stimulus) : (s.setPending l).out = s.out := rfl
@[simp] theorem State.setPending_hookBlocked (l : List Stimulus) : (s.setPending l).hookBlocked = s.hookBlocked := rfl
@[simp] theorem State.setPending_pending (l : List Stimulus) : (s.setPending l).pending = l := rfl
@[simp] theorem State.setPending_draws (l : List Stimulus) : (s.setPending l).draws = s.draws := rfl
@[simp] theorem State.setPending_board (l : List Stimulus) : (s.setPending l).board = s.board := rfl

/-! ### holdAtHook -/

@[simp] theorem State.holdAtHook_gateActive : (s.holdAtHook).gateActive = s.gateActive := rfl
@[simp] theorem State.holdAtHook_bitIndex : (s.holdAtHook).bitIndex = s.bitIndex := rfl
@[simp] theorem State.holdAtHook_acc : (s.holdAtHook).acc = s.acc := rfl
@[simp] theorem State.holdAtHook_bits : (s.holdAtHook).bits = s.bits := rfl
@[simp] theorem State.holdAtHook_sign : (s.holdAtHook).sign = s.sign := rfl
@[simp] theorem State.holdAtHook_gatePrev : (s.holdAtHook).gatePrev = s.gatePrev := rfl
@[simp] theorem State.holdAtHook_clkPrev : (s.holdAtHook).clkPrev = s.clkPrev := rfl
@[simp] theorem State.holdAtHook_record : (s.holdAtHook).record = s.record := rfl
@[simp] theorem State.holdAtHook_recUnit : (s.holdAtHook).recUnit = s.recUnit := rfl
@[simp] theorem State.holdAtHook_phase : (s.holdAtHook).phase = s.phase := rfl
@[simp] theorem State.holdAtHook_cyc : (s.holdAtHook).cyc = s.cyc := rfl
@[simp] theorem State.holdAtHook_pos : (s.holdAtHook).pos = s.pos := rfl
@[simp] theorem State.holdAtHook_fault : (s.holdAtHook).fault = s.fault := rfl
@[simp] theorem State.holdAtHook_outLatch : (s.holdAtHook).outLatch = s.outLatch := rfl
@[simp] theorem State.holdAtHook_out : (s.holdAtHook).out = s.out := rfl
@[simp] theorem State.holdAtHook_hookBlocked : (s.holdAtHook).hookBlocked = (s.hookBlocked || s.atHook) := rfl
@[simp] theorem State.holdAtHook_pending : (s.holdAtHook).pending = s.pending := rfl
@[simp] theorem State.holdAtHook_draws : (s.holdAtHook).draws = s.draws := rfl
@[simp] theorem State.holdAtHook_board : (s.holdAtHook).board = s.board := rfl

/-! ### releaseHook -/

@[simp] theorem State.releaseHook_gateActive : (s.releaseHook).gateActive = s.gateActive := rfl
@[simp] theorem State.releaseHook_bitIndex : (s.releaseHook).bitIndex = s.bitIndex := rfl
@[simp] theorem State.releaseHook_acc : (s.releaseHook).acc = s.acc := rfl
@[simp] theorem State.releaseHook_bits : (s.releaseHook).bits = s.bits := rfl
@[simp] theorem State.releaseHook_sign : (s.releaseHook).sign = s.sign := rfl
@[simp] theorem State.releaseHook_gatePrev : (s.releaseHook).gatePrev = s.gatePrev := rfl
@[simp] theorem State.releaseHook_clkPrev : (s.releaseHook).clkPrev = s.clkPrev := rfl
@[simp] theorem State.releaseHook_record : (s.releaseHook).record = s.record := rfl
@[simp] theorem State.releaseHook_recUnit : (s.releaseHook).recUnit = s.recUnit := rfl
@[simp] theorem State.releaseHook_phase : (s.releaseHook).phase = s.phase := rfl
@[simp] theorem State.releaseHook_cyc : (s.releaseHook).cyc = s.cyc := rfl
@[simp] theorem State.releaseHook_pos : (s.releaseHook).pos = s.pos := rfl
@[simp] theorem State.releaseHook_fault : (s.releaseHook).fault = s.fault := rfl
@[simp] theorem State.releaseHook_outLatch : (s.releaseHook).outLatch = s.outLatch := rfl
@[simp] theorem State.releaseHook_out : (s.releaseHook).out = s.out := rfl
@[simp] theorem State.releaseHook_hookBlocked : (s.releaseHook).hookBlocked = false := rfl
@[simp] theorem State.releaseHook_pending : (s.releaseHook).pending = s.pending := rfl
@[simp] theorem State.releaseHook_draws : (s.releaseHook).draws = s.draws := rfl
@[simp] theorem State.releaseHook_board : (s.releaseHook).board = s.board := rfl

/-! ### powerOn -/

@[simp] theorem State.powerOn_gateActive : s.powerOn.gateActive = false := rfl
@[simp] theorem State.powerOn_bitIndex : s.powerOn.bitIndex = 0 := rfl
@[simp] theorem State.powerOn_acc : s.powerOn.acc = 0 := rfl
@[simp] theorem State.powerOn_bits : s.powerOn.bits = 0 := rfl
@[simp] theorem State.powerOn_sign : s.powerOn.sign = false := rfl
@[simp] theorem State.powerOn_gatePrev : s.powerOn.gatePrev = true := rfl
@[simp] theorem State.powerOn_clkPrev : s.powerOn.clkPrev = true := rfl
@[simp] theorem State.powerOn_record : s.powerOn.record = #v[12, 0, 0, 0, 0, 0] := rfl
@[simp] theorem State.powerOn_recUnit : s.powerOn.recUnit = false := rfl
@[simp] theorem State.powerOn_phase : s.powerOn.phase = .decode := rfl
@[simp] theorem State.powerOn_cyc : s.powerOn.cyc = 0 := rfl
@[simp] theorem State.powerOn_pos : s.powerOn.pos = 0 := rfl
@[simp] theorem State.powerOn_fault : s.powerOn.fault = none := rfl
@[simp] theorem State.powerOn_outLatch : s.powerOn.outLatch = Config.latchAtPowerOn s.draws := rfl
@[simp] theorem State.powerOn_out : s.powerOn.out = [] := rfl
@[simp] theorem State.powerOn_hookBlocked : s.powerOn.hookBlocked = false := rfl
@[simp] theorem State.powerOn_pending : s.powerOn.pending = s.pending := rfl
@[simp] theorem State.powerOn_draws : s.powerOn.draws = s.draws + 1 := rfl
@[simp] theorem State.powerOn_board : s.powerOn.board = s.board := rfl

end Sys2Proof.Machine
end

