-- ==== Sys2Proof/Laws/Ops.lean ====
section
/-! SUPPORT. What each shared operation over the tables, the bit array and the fault mark can do. -/

namespace Sys2Proof.Machine

/-! ### Table reads (R51 to R53) -/

theorem tableRead_of_lt {α : Type} {n : Nat} (t : Table) (entries : Vector α n) {i : Nat}
    (h : i < n) : tableRead t entries i = .ok entries[i] := by
  simp [tableRead, h]

theorem tableRead_of_ge {α : Type} {n : Nat} (t : Table) (entries : Vector α n) {i : Nat}
    (h : n ≤ i) : tableRead t entries i = .error (.tableRange t i) := by
  simp [tableRead, h]

/-- A table read answers the entry, or names the table and the index it lacks. -/
theorem tableRead_cases {α : Type} {n : Nat} (t : Table) (entries : Vector α n) (i : Nat) :
    (∃ h : i < n, tableRead t entries i = .ok entries[i])
      ∨ (n ≤ i ∧ tableRead t entries i = .error (.tableRange t i)) := by
  rcases Nat.lt_or_ge i n with h | h
  · exact .inl ⟨h, tableRead_of_lt t entries h⟩
  · exact .inr ⟨h, tableRead_of_ge t entries h⟩

theorem readWeight_of_lt {i : BitIndex} (h : i.toNat < 24) :
    readWeight i = .ok weights[i.toNat] :=
  tableRead_of_lt .w weights h

theorem readWeight_of_ge {i : BitIndex} (h : 24 ≤ i.toNat) :
    readWeight i = .error (.tableRange .w i.toNat) :=
  tableRead_of_ge .w weights h

theorem State.readGlyph_of_lt (s : State) {k : GlyphIndex} (h : k.toNat < 13) :
    s.readGlyph k = .ok s.board.glyph[k.toNat] :=
  tableRead_of_lt .glyph s.board.glyph h

theorem State.readGlyph_of_ge (s : State) {k : GlyphIndex} (h : 13 ≤ k.toNat) :
    s.readGlyph k = .error (.tableRange .glyph k.toNat) :=
  tableRead_of_ge .glyph s.board.glyph h

theorem State.readGlyph_idxDp (s : State) : s.readGlyph idxDp = .ok s.board.glyph[10] :=
  s.readGlyph_of_lt (by decide)

theorem State.readAnode_of_lt (s : State) {p : Position} (h : p.toNat < 6) :
    s.readAnode p = .ok s.board.anode[p.toNat] :=
  tableRead_of_lt .anode s.board.anode h

theorem State.readRecord_of_lt (s : State) {p : Position} (h : p.toNat < 6) :
    s.readRecord p = .ok s.record[p.toNat] :=
  tableRead_of_lt .anode s.record h

theorem State.readRecord_of_ge (s : State) {p : Position} (h : 6 ≤ p.toNat) :
    s.readRecord p = .error (.tableRange .anode p.toNat) :=
  tableRead_of_ge .anode s.record h

/-! ### The array write (R10) -/

/-- A write to the bit array changes the element named and no other. -/
theorem writeBit_getLsbD (bits : FrameBits) (i : Nat) (d : Level) (j : Nat) (hj : j < 24) :
    (writeBit bits i d).getLsbD j = if j = i then d else bits.getLsbD j := by
  cases d <;> by_cases h : j = i <;> simp [writeBit, hj, h, Nat.sub_eq_zero_iff_le] <;> omega

/-! ### Faults (R201, R202) -/

theorem State.raise_of_none {s : State} (f : Fault) (h : s.fault = none) :
    s.raise f = { s with fault := some f } := by
  simp [State.raise, h]

theorem State.raise_of_some {s : State} {g : Fault} (f : Fault) (h : s.fault = some g) :
    s.raise f = s := by
  simp [State.raise, h]

/-- Recording a fault changes nothing but the mark, which it sets unless it stands already. -/
theorem State.raise_eq (s : State) (f : Fault) :
    s.raise f = { s with fault := some (s.fault.getD f) } := by
  obtain h | ⟨g, h⟩ : s.fault = none ∨ ∃ g, s.fault = some g := by
    cases s.fault <;> simp
  · simp [State.raise_of_none f h, h]
  · rw [State.raise_of_some f h]; cases s; simp_all

theorem State.settle_ok (s t : State) : s.settle (.ok t) = t := rfl

theorem State.settle_error (s : State) (f : Fault) : s.settle (.error f) = s.raise f := rfl

/-- An operation ends in the state it gives, or in the state it began in with its fault recorded. -/
theorem State.settle_cases (s : State) (r : Except Fault State) :
    (∃ t, r = .ok t ∧ s.settle r = t)
      ∨ (∃ f, r = .error f ∧ s.settle r = { s with fault := some (s.fault.getD f) }) := by
  cases r with
  | ok t => exact .inl ⟨t, rfl, rfl⟩
  | error f => exact .inr ⟨f, rfl, s.raise_eq f⟩

end Sys2Proof.Machine
end

