-- ==== Sys2Proof/Laws/Agents.lean ====
section
/-! SUPPORT. What each operation of the two agents can do: one lemma per operation, cited instead of
unfolding it. -/

namespace Sys2Proof.Machine

/-! ### Capture (R111 to R115) -/

theorem completeIfFull_cases (s : State) :
    (s.bitIndex.toNat = 24 ∧ completeIfFull s = s.closeWindow)
      ∨ (s.bitIndex.toNat ≠ 24 ∧ completeIfFull s = s) := by
  by_cases h : s.bitIndex.toNat = 24 <;> simp [completeIfFull, frameComplete, frameBits, h]

/-- CLOCK_EDGE is dropped with no window open, stores its bit at an index inside the frame, and
raises TableRange at an index outside it. -/
theorem clockEdge_cases (d : Level) (s : State) :
    (s.gateActive = false ∧ clockEdge d s = .ok s)
      ∨ (∃ h : s.bitIndex.toNat < 24, s.gateActive = true ∧
          clockEdge d s = .ok (completeIfFull
            (s.storeBit (writeBit s.bits s.bitIndex.toNat d)
              (s.acc + weigh weights[s.bitIndex.toNat] d)
              (signFlag (writeBit s.bits s.bitIndex.toNat d)))))
      ∨ (s.gateActive = true ∧ 24 ≤ s.bitIndex.toNat ∧
          clockEdge d s = .error (.tableRange .w s.bitIndex.toNat)) := by
  cases hg : s.gateActive with
  | false => simp [clockEdge, hg]
  | true =>
    rcases Nat.lt_or_ge s.bitIndex.toNat 24 with h | h
    · exact .inr (.inl ⟨h, rfl, by simp [clockEdge, hg, readWeight_of_lt h]⟩)
    · exact .inr (.inr ⟨rfl, h, by simp [clockEdge, hg, readWeight_of_ge h]⟩)

/-- SAMPLE performs the events of the edges it finds, after taking the new levels. -/
theorem sample_cases (g c d : Level) (s : State) :
    (risingEdge s.gatePrev g = true ∧ risingEdge s.clkPrev c = true ∧
        sample g c d s = bothEdges (Config.simulOrder s.draws) d (s.setLevels g c).draw)
      ∨ (risingEdge s.gatePrev g = true ∧ risingEdge s.clkPrev c = false ∧
        sample g c d s = .ok (gateEdge (s.setLevels g c)))
      ∨ (risingEdge s.gatePrev g = false ∧ risingEdge s.clkPrev c = true ∧
        sample g c d s = clockEdge d (s.setLevels g c))
      ∨ (risingEdge s.gatePrev g = false ∧ risingEdge s.clkPrev c = false ∧
        sample g c d s = .ok (s.setLevels g c)) := by
  cases hg : risingEdge s.gatePrev g <;> cases hc : risingEdge s.clkPrev c <;>
    simp [sample, hg, hc]

/-! ### Decode (R130 to R137) -/

/-- Decode has no value in the inch branch outside `c <= h <= 9999`, and one everywhere else. -/
theorem decodeMeasurement_cases (x : Snapshot) :
    (x.u = false ∧ decodeMeasurement x = .ok (decodeMm x.m.toNat x.s))
      ∨ (x.u = true ∧ 10000 ≤ x.m.toNat / 2 ∧ decodeMeasurement x = .error .hTooLarge)
      ∨ (x.u = true ∧ x.m.toNat / 2 < x.c.toNat ∧ decodeMeasurement x = .error .hBelowC)
      ∨ (x.u = true ∧ x.m.toNat / 2 < 10000 ∧ x.c.toNat ≤ x.m.toNat / 2 ∧
          decodeMeasurement x = .ok #v[signGlyph x.s,
            digitGlyph (x.m.toNat / 2 / 1000),
            digitGlyph (x.m.toNat / 2 % 1000 / 100),
            digitGlyph (x.m.toNat / 2 % 100 / 10),
            digitGlyph ((x.m.toNat / 2 - x.c.toNat) % 10),
            digitGlyph (5 * x.c.toNat)]) := by
  cases hu : x.u with
  | false => simp [decodeMeasurement, hu]
  | true =>
    by_cases h1 : 10000 ≤ x.m.toNat / 2
    · simp [decodeMeasurement, decodeInch, hu, h1]
    · by_cases h2 : x.m.toNat / 2 < x.c.toNat
      · simp [decodeMeasurement, decodeInch, hu, h1, h2]
      · refine .inr (.inr (.inr ⟨rfl, by omega, by omega, ?_⟩))
        simp [decodeMeasurement, decodeInch, hu, h1, h2]

/-- DECODE_PHASE keeps the record with a window open, replaces it by the decoded one with none, and
raises DecodeRange where Decode has no value. -/
theorem decodePhase_cases (s : State) :
    (s.gateActive = true ∧ decodePhase s = .ok (s.setSequencer .scan 0 0))
      ∨ (∃ r, s.gateActive = false ∧ decodeMeasurement s.snapshot = .ok r ∧
          decodePhase s = .ok ((s.setRecord r s.snapshot.u).setSequencer .scan 0 0))
      ∨ (∃ info, s.gateActive = false ∧ decodeMeasurement s.snapshot = .error info ∧
          decodePhase s = .error (.decodeRange info s.snapshot)) := by
  cases hg : s.gateActive with
  | true => simp [decodePhase, hg]
  | false => cases hd : decodeMeasurement s.snapshot <;> simp [decodePhase, hg, hd]

/-! ### Scan (R150 to R155) -/

/-- With both indices inside their tables SCAN_STEP has its word. -/
theorem State.scanWord_of_lt (s : State) (hp : s.pos.toNat < 6)
    (hk : s.record[s.pos.toNat].toNat < 13) :
    s.scanWord = .ok (assembleWord s.board.glyph[s.record[s.pos.toNat].toNat] s.board.glyph[10]
      s.board.anode[s.pos.toNat] (s.pos == s.dpPosition)) := by
  simp [State.scanWord, s.readRecord_of_lt hp, s.readGlyph_of_lt hk, s.readGlyph_idxDp,
    s.readAnode_of_lt hp]

/-- SCAN_STEP emits the word of its position and advances, or raises TableRange. -/
theorem scanStep_cases (s : State) :
    (∃ w, s.scanWord = .ok w ∧ scanStep s = .ok (s.emitWord w).advance)
      ∨ (∃ f, s.scanWord = .error f ∧ scanStep s = .error f) := by
  cases h : s.scanWord <;> simp [scanStep, h]

theorem State.scanWord_of_pos_ge (s : State) (hp : 6 ≤ s.pos.toNat) :
    s.scanWord = .error (.tableRange .anode s.pos.toNat) := by
  simp [State.scanWord, s.readRecord_of_ge hp]

theorem State.scanWord_of_glyph_ge (s : State) (hp : s.pos.toNat < 6)
    (hk : 13 ≤ s.record[s.pos.toNat].toNat) :
    s.scanWord = .error (.tableRange .glyph s.record[s.pos.toNat].toNat) := by
  simp [State.scanWord, s.readRecord_of_lt hp, s.readGlyph_of_ge hk, s.readGlyph_idxDp,
    s.readAnode_of_lt hp]

/-- The advance moves to the next position, the next cycle, or the end of the pass (R155). -/
theorem State.advance_cases (s : State) :
    (s.pos.toNat < 5 ∧ s.advance = s.setSequencer s.phase s.cyc (s.pos + 1))
      ∨ (5 ≤ s.pos.toNat ∧ s.cyc.toNat < 430 ∧ s.advance = s.setSequencer s.phase (s.cyc + 1) 0)
      ∨ (5 ≤ s.pos.toNat ∧ 430 ≤ s.cyc.toNat ∧ s.advance = s.setSequencer .decode 0 0) := by
  by_cases h1 : s.pos.toNat < 5
  · exact .inl ⟨h1, by simp [State.advance, nPos, h1]⟩
  · by_cases h2 : s.cyc.toNat < 430
    · exact .inr (.inl ⟨by omega, h2, by simp [State.advance, nPos, nCycles, h1, h2]⟩)
    · exact .inr (.inr ⟨by omega, by omega, by simp [State.advance, nPos, nCycles, h1, h2]⟩)

/-! ### The main loop (R171) -/

theorem State.mainEnabled_iff (s : State) :
    s.mainEnabled = true ↔ s.fault = none ∧ s.hookBlocked = false := by
  simp [State.mainEnabled]

/-- MAIN_STEP is no step, a DECODE_PHASE or a SCAN_STEP. -/
theorem mainStep_cases (s : State) :
    (s.mainEnabled = false ∧ mainStep s = s)
      ∨ (s.mainEnabled = true ∧ s.phase = .decode ∧ mainStep s = s.settle (decodePhase s))
      ∨ (s.mainEnabled = true ∧ s.phase = .scan ∧ mainStep s = s.settle (scanStep s)) := by
  cases he : s.mainEnabled <;> cases hp : s.phase <;> simp [mainStep, mainArm, he, hp]

/-! ### The meanings and the step -/

theorem exec_gate (s : State) : exec .gate s = .next (gateEdge s) := rfl

theorem exec_clk (d : Level) (s : State) : exec (.clk d) s = .next (s.settle (clockEdge d s)) := rfl

theorem exec_smp (g c d : Level) (s : State) :
    exec (.smp g c d) s = .next (s.settle (sample g c d s)) := rfl

theorem exec_main (s : State) : exec .main s = .next (mainStep s) := rfl

theorem exec_reset (s : State) : exec .reset s = .next s.powerOn := rfl

/-- What one step can do: an operation of the input list, the main agent's step when the list is
empty, an act of the reporter, or the refusal of a reserved byte. -/
theorem step_cases (s : State) :
    (s.pending = [] ∧ step s = exec .main s)
      ∨ (∃ b i rest, s.pending = .op b :: rest ∧ decodeByte b = some i ∧
          step s = exec i (s.setPending rest))
      ∨ (∃ b rest, s.pending = .op b :: rest ∧ decodeByte b = none ∧
          step s = .refused (.reservedStimulus b 0))
      ∨ (∃ rest, s.pending = .hookHold :: rest ∧ step s = .next (s.setPending rest).holdAtHook)
      ∨ (∃ rest, s.pending = .hookRelease :: rest ∧
          step s = .next (s.setPending rest).releaseHook) := by
  rcases hp : s.pending with _ | ⟨_ | _ | _, rest⟩
  · simp [step, fetch, hp]
  · rename_i b
    cases hd : decodeByte b <;> simp [step, fetch, hp, hd]
  · simp [step, fetch, hp]
  · simp [step, fetch, hp]

end Sys2Proof.Machine
end

