-- ==== Sys2Proof/Laws/PerInstr.lean ====
section
/-! SUPPORT. The statements made per operation: each operation's byte is read back as the operation
(`spec/30_encoding.md` rule R95). -/

namespace Sys2Proof.Laws

/-- The byte of `i` decodes to `i`. -/
def EncodedByteDecodes.Statement (i : Instr) : Prop :=
  decodeByte (encode i) = some i

theorem EncodedByteDecodes.gate : EncodedByteDecodes.Statement .gate := by
  unfold EncodedByteDecodes.Statement; decide

theorem EncodedByteDecodes.clk (d : Level) : EncodedByteDecodes.Statement (.clk d) := by
  unfold EncodedByteDecodes.Statement; revert d; decide

theorem EncodedByteDecodes.smp (g c d : Level) : EncodedByteDecodes.Statement (.smp g c d) := by
  unfold EncodedByteDecodes.Statement; revert g c d; decide

theorem EncodedByteDecodes.main : EncodedByteDecodes.Statement .main := by
  unfold EncodedByteDecodes.Statement; decide

theorem EncodedByteDecodes.reset : EncodedByteDecodes.Statement .reset := by
  unfold EncodedByteDecodes.Statement; decide

end Sys2Proof.Laws
end

