-- ==== Sys2Proof/Tests/Slice0.lean ====
section
/-! SUPPORT. The model's own tests: the words of `spec/30_encoding.md` rule R95 written out bit by
bit, the checks of WellFormed refusing an ill-formed term each, single steps with their expected
values taken from `spec/95_test_vectors.md` (the vector stands in each docstring), and, for every
obligation that has hypotheses, a concrete state that meets them (`witness_…`). -/

namespace Sys2Proof.Tests

open Sys2Proof.Machine

/-! ### Helpers -/

/-- The next state, where there is one. -/
def nextOf : Host.Outcome State Fault Refusal → Option State
  | .next s => some s
  | .fault _ => none
  | .refused _ => none

/-- The refusal, where there is one. -/
def refusalOf : Host.Outcome State Fault Refusal → Option Refusal
  | .next _ => none
  | .fault _ => none
  | .refused r => some r

/-- What `f` shows of the state after the operation `i`. -/
def after {α : Type} (i : Instr) (s : State) (f : State → α) : Option α :=
  (nextOf (exec i s)).map f

/-- The value of an `Except`, where there is one. -/
def valueOf {ε α : Type} : Except ε α → Option α
  | .ok a => some a
  | .error _ => none

/-- The error of an `Except`, where there is one. -/
def errorOf {ε α : Type} : Except ε α → Option ε
  | .ok _ => none
  | .error e => some e

/-- A state with a window open at index `i`. -/
def openAt (i : BitIndex) (acc : Magnitude) (bits : FrameBits) : State :=
  { State.reset with
    gateActive := true, bitIndex := i, acc := acc, bits := bits, sign := bits.getLsbD 20 }

/-- A completed frame, waiting for a DECODE_PHASE. -/
def completed (acc : Magnitude) (bits : FrameBits) : State :=
  { State.reset with acc := acc, bits := bits, sign := bits.getLsbD 20 }

/-- The scan of the record `{12,1,2,3,4,5}` at a place of the pass. -/
def scanning (u : Bool) (cyc : CycleCount) (pos : Position) : State :=
  { State.reset with
    record := #v[12, 1, 2, 3, 4, 5], recUnit := u, phase := .scan, cyc := cyc, pos := pos }

/-- `s` with the last word of a refresh cycle of the record `{12,1,2,3,4,5}` sent. -/
def afterCycle (s : State) : State :=
  { s with out := [.dwell, .word 0x206D], outLatch := 0x206D }

/-- Both lines were low at the last sample. -/
def linesLow : State :=
  { State.reset with gatePrev := false, clkPrev := false }

/-- The place in the main loop. -/
def place (s : State) : Phase × Nat × Nat :=
  (s.phase, s.cyc.toNat, s.pos.toNat)

/-! ### Decoding: the bytes of R95 written out, bit 7 first -/

/-- GATE is `00010000`. -/
theorem test_decode_gate : decodeByte 0b00010000#8 = some .gate := by decide

/-- CLK d is `0010000d`. -/
theorem test_decode_clk :
    decodeByte 0b00100000#8 = some (.clk false) ∧ decodeByte 0b00100001#8 = some (.clk true) := by
  decide

/-- SMP g c d is `00110gcd`: one level at a time. -/
theorem test_decode_smp :
    decodeByte 0b00110100#8 = some (.smp true false false)
      ∧ decodeByte 0b00110010#8 = some (.smp false true false)
      ∧ decodeByte 0b00110001#8 = some (.smp false false true) := by
  decide

/-- MAIN is `01000000` and RESET is `11110000`. -/
theorem test_decode_main_reset :
    decodeByte 0b01000000#8 = some .main ∧ decodeByte 0b11110000#8 = some .reset := by decide

/-- R96: reserved neighbours of every row, and the zero byte. -/
theorem test_decode_reserved :
    decodeByte 0x00#8 = none ∧ decodeByte 0x11#8 = none ∧ decodeByte 0x22#8 = none
      ∧ decodeByte 0x38#8 = none ∧ decodeByte 0x41#8 = none ∧ decodeByte 0x50#8 = none
      ∧ decodeByte 0xE0#8 = none ∧ decodeByte 0xF1#8 = none ∧ decodeByte 0xFF#8 = none := by
  decide

/-- R96: thirteen bytes name an operation, and no other byte does. -/
theorem test_decode_count :
    ((List.range 256).filter fun n => (decodeByte (BitVec.ofNat 8 n)).isSome).length = 13 := by
  decide

/-- R96: a trace is refused by its first reserved byte and that byte's position. -/
theorem test_decode_trace_refused :
    errorOf (decodeTrace [0x10#8, 0x21#8, 0x00#8, 0xFF#8]) = some ⟨0x00#8, 2⟩ := by decide

/-- The word a table row gives, read by its number. -/
theorem test_decode_table_word :
    decodeTableWord 8 0x20 = some (.clk false) ∧ decodeTableWord 8 0x37 = some (.smp true true true)
      ∧ decodeTableWord 8 0x0F = none := by
  decide

/-! ### WellFormed: an ill-formed term for each check -/

/-- Every operation is well formed: its operands are single levels. -/
theorem test_wf_instr : ∀ g c d : Level,
    (Instr.gate.wf && (Instr.clk d).wf && (Instr.smp g c d).wf && Instr.main.wf && Instr.reset.wf)
      = true := by
  decide

/-- R99: a FRAME of 23 characters. -/
theorem test_wf_frame_length : (Pseudo.frame (List.replicate 23 true)).wf = false := by decide

/-- R99: a MEAS whose `raw` needs a seventeenth bit. -/
theorem test_wf_meas_range :
    (Pseudo.meas 65536 false false).wf = false ∧ (Pseudo.meas 65535 true true).wf = true := by
  decide

/-- R89: a glyph pattern that reaches into the select field. -/
theorem test_wf_board_disjoint :
    ({ defaultBoard with glyph := defaultGlyphs.set 8 0x017F } : Board).wf = false := by decide

/-- R89: a select word with two bits set, and one with none. -/
theorem test_wf_board_one_hot :
    ({ defaultBoard with anode := defaultAnodes.set 2 0xC000 } : Board).wf = false
      ∧ ({ defaultBoard with anode := defaultAnodes.set 2 0 } : Board).wf = false := by
  decide

/-- R89: two positions with the same select word. -/
theorem test_wf_board_distinct :
    ({ defaultBoard with anode := defaultAnodes.set 2 0x0100 } : Board).wf = false := by decide

/-- R153: equal decimal-point positions, and positions outside 1..5. -/
theorem test_wf_board_points :
    ({ defaultBoard with dpPosInch := 3 } : Board).wf = false
      ∧ ({ defaultBoard with dpPosMm := 0 } : Board).wf = false
      ∧ ({ defaultBoard with dpPosInch := 6 } : Board).wf = false := by
  decide

/-! ### Capture, one step each -/

/-- VC10: GATE after a completed frame loses `acc` and keeps `bits`. -/
theorem test_gate_after_frame :
    after .gate (completed 12345 0x003039) (fun t => (t.gateActive, t.bitIndex, t.acc, t.bits))
      = some (true, 0, 0, 0x003039) := by
  decide

/-- VC23: GATE inside a window zeroes `acc` and keeps the index. -/
theorem test_gate_keeps_index :
    after .gate (openAt 10 57 0x000039) (fun t => (t.gateActive, t.bitIndex, t.acc))
      = some (true, 10, 0) := by
  decide

/-- VC5: CLK 1 at index 3 adds 8. -/
theorem test_clk_weight :
    after (.clk true) (openAt 3 1 0x000001) (fun t => (t.bits, t.acc, t.bitIndex))
      = some (0x000009, 9, 4) := by
  decide

/-- VC6: CLK 0 at index 23 completes the frame. -/
theorem test_clk_completes :
    after (.clk false) (openAt 23 12345 0x003039)
        (fun t => (t.gateActive, t.bitIndex, t.acc, t.bits))
      = some (false, 0, 12345, 0x003039) := by
  decide

/-- VC16: the sign shows in the step that stores position 20, which also adds 1. -/
theorem test_clk_sign_mid_frame :
    after (.clk true) (openAt 20 5 0x000005) (fun t => (t.sign, t.acc, t.gateActive))
      = some (true, 6, true) := by
  decide

/-- VP9: a clock rise under a steady gate line is CLOCK_EDGE(1). -/
theorem test_smp_clock_rise :
    after (.smp true true true) { openAt 2 1 0x000001 with clkPrev := false }
        (fun t => (t.bits, t.acc, t.bitIndex, t.gatePrev, t.clkPrev))
      = some (0x000005, 5, 3, true, true) := by
  decide

/-- VP10: the fall of the gate line leaves the window open. -/
theorem test_smp_gate_fall :
    after (.smp false true true) (openAt 3 5 0x000005)
        (fun t => (t.gateActive, t.bitIndex, t.gatePrev))
      = some (true, 3, false) := by
  decide

/-- VP11 and VP12: the two orders of two edges in one sample. -/
theorem test_simultaneous_edges :
    (valueOf (bothEdges .gateFirst true linesLow)).map (fun t => (t.gateActive, t.bitIndex, t.acc))
        = some (true, 1, 1)
      ∧ (valueOf (bothEdges .clockFirst true linesLow)).map
          (fun t => (t.gateActive, t.bitIndex, t.acc)) = some (true, 0, 0) := by
  decide

/-! ### Decode -/

/-- VD13: the carry asymmetry. -/
theorem test_decode_carry :
    valueOf (decodeMeasurement ⟨2480, true, false, true⟩) = some #v[12, 1, 2, 4, 9, 5] := by decide

/-- VD7, VD17 and VD21: the largest magnitude in mm, and the two faults. -/
theorem test_decode_edges :
    valueOf (decodeMeasurement ⟨65537, false, true, true⟩) = some #v[11, 6, 5, 5, 3, 7]
      ∧ errorOf (decodeMeasurement ⟨20000, true, false, true⟩) = some .hTooLarge
      ∧ errorOf (decodeMeasurement ⟨0, true, false, true⟩) = some .hBelowC := by
  decide

/-! ### The main loop, one step each -/

/-- VD35: record and unit are written together. -/
theorem test_main_decodes :
    after .main (completed 2471 0x9009A5) (fun t => (t.record, t.recUnit, place t))
      = some (#v[11, 1, 2, 3, 4, 5], true, .scan, 0, 0) := by
  decide

/-- VD33: the fault is recorded with the snapshot, and the record stays. -/
theorem test_main_faults :
    after .main (completed 58369 0xC0E439) (fun t => (t.fault, t.record, place t))
      = some (some (.decodeRange .hTooLarge ⟨58369, true, false, true⟩),
          #v[12, 0, 0, 0, 0, 0], .decode, 0, 0) := by
  decide

/-- VS5: position 3 in mm carries the point. -/
theorem test_main_scans :
    after .main (scanning false 0 3) (fun t => (t.outTrace, t.outLatch, place t))
      = some ([.word 0x08CF, .dwell], 0x08CF, .scan, 0, 4) := by
  decide

/-- VS10: with the unit live, the point follows `bits[23]`. -/
theorem test_main_scans_live :
    after .main
        { scanning false 0 1 with
          bits := 0x800000, board := { defaultBoard with unitSrc := .live } }
        (fun t => t.outLatch)
      = some 0x0286 := by
  decide

/-- VS7: the end of the pass. -/
theorem test_main_ends_pass : after .main (scanning false 430 5) place = some (.decode, 0, 0) := by
  decide

/-- R175's example, from a faulted state with a frame half captured. -/
theorem test_reset :
    after .reset { openAt 10 57 0x000039 with fault := some (.tableRange .w 24), phase := .scan }
        (fun t => ((t.gateActive, t.bitIndex, t.acc), t.record, t.phase, t.fault))
      = some ((false, 0, 0), #v[12, 0, 0, 0, 0, 0], .decode, none) := by
  decide

/-! ### The step -/

/-- A word placed before the input list is what the next step runs. -/
theorem test_step_runs_word :
    (nextOf (step (State.reset.withFetchWord 8 0x10))).map (fun t => (t.gateActive, t.pending))
      = some (true, []) := by
  decide

/-- A reserved byte stops the step by name. -/
theorem test_step_refuses :
    refusalOf (step (State.reset.withFetchWord 8 0x00)) = some (.reservedStimulus 0x00 0) := by
  decide

/-! ### Text (R98, R99) -/

/-- A comment, a blank line and three kinds of line. -/
theorem test_text :
    (valueOf (parseText "# P\n\nSMP 1 0 1 # pin\nMEAS 5 1 0\nCLKS 01".toList))
      = some [.op (.smp true false true), .meas 5 true false, .clks [false, true]] := by
  decide

/-- CLKS takes the empty string (R99). Lower case, two spaces, a tab and a FRAME that is too short are
malformed; the line is named. -/
theorem test_text_edges :
    parseLine "CLKS ".toList = .pseudo (.clks []) ∧ parseLine "CLKS".toList = .pseudo (.clks [])
      ∧ parseLine "gate".toList = .malformed ∧ parseLine "CLK  1".toList = .malformed
      ∧ parseLine "CLK\t1".toList = .malformed ∧ parseLine "FRAME 101".toList = .malformed
      ∧ errorOf (parseText "GATE\nCLK 2".toList) = some 2 := by
  decide

/-- R99's example, the first bytes and their number. -/
theorem test_assemble_meas :
    (assemble [.meas 12345 false false]).take 7 = [0x10, 0x21, 0x20, 0x20, 0x21, 0x21, 0x21]
      ∧ (assemble [.meas 12345 false false]).length = 25 := by
  decide

/-! ### Witnesses: each obligation's hypotheses, met together -/

/-- ReservedStimuliAreRefusedByNameAndPosition, clauses 2 and 3: the last byte of the trace. -/
theorem witness_reserved_trace : decodeTrace [0x40#8, 0x00#8] = .error ⟨0x00#8, 1⟩ := rfl

/-- StepRefusesAReservedByteByName. -/
theorem witness_reserved_next :
    (State.reset.withFetchWord 8 0xEF).pending = [.op 0xEF#8] ∧ decodeByte 0xEF#8 = none := by
  decide

/-- TraceDecodeAndEncodeAgree, both clauses. -/
theorem witness_trace_agrees :
    (∀ i ∈ [Instr.reset, .smp true false true, .main], i.wf = true)
      ∧ decodeTrace [0xF0#8, 0x35#8, 0x40#8] = .ok [.reset, .smp true false true, .main] :=
  ⟨by decide, rfl⟩

/-- PseudoOperationsExpandAsListed: a frame of 24 characters. -/
theorem witness_frame_wf : (Pseudo.frame (List.replicate 24 true)).wf = true := by decide

/-- StepRunsTheDecodedOperation, both clauses. -/
theorem witness_step_runs :
    (State.reset.withFetchWord 8 0x21).pending = .op 0x21#8 :: []
      ∧ decodeByte 0x21#8 = some (.clk true) ∧ (Instr.clk true).wf = true := by
  decide

/-- StepWithoutStimulusRunsTheMainLoop and LoadedTraceRunsItsOperationsInOrder. -/
theorem witness_no_stimulus :
    State.reset.pending = [] ∧ ∀ i ∈ [Instr.gate, .clk true, .main, .reset], i.wf = true := by
  decide

/-- R186: the hook point is the end of a refresh cycle. It is there within a pass and after its last
cycle; it is not there inside a cycle, at the start of a pass, after RESET, or beside a fault. -/
theorem test_hook_point :
    (afterCycle (scanning false 1 0)).atHook = true ∧ (afterCycle State.reset).atHook = true
      ∧ (afterCycle (scanning false 1 3)).atHook = false
      ∧ (afterCycle (scanning false 0 0)).atHook = false ∧ State.reset.atHook = false
      ∧ (afterCycle { State.reset with fault := some (.decodeRange .hTooLarge ⟨20000, true, false, true⟩) }).atHook
          = false := by
  decide

/-- ReporterOnlyHoldsAndReleases: away from the hook point and at it, and the release. -/
theorem witness_reporter :
    (({ scanning false 0 0 with pending := [.hookHold] } : State).pending = .hookHold :: []
        ∧ (scanning false 0 0).atHook = false)
      ∧ (({ afterCycle (scanning false 1 0) with pending := [.hookHold] } : State).pending
            = .hookHold :: []
        ∧ (afterCycle (scanning false 1 0)).atHook = true)
      ∧ ({ State.reset with pending := [.hookRelease], hookBlocked := true } : State).pending
          = .hookRelease :: [] := by
  decide

/-- EffectiveClockStoresWeighsAndCounts and FrameCompletionPublishesAStableFrame: the first index,
and the last one with the largest sum. -/
theorem witness_effective_clock :
    ((openAt 0 0 0).gateActive = true ∧ (openAt 0 0 0).bitIndex.toNat < 24
        ∧ (openAt 0 0 0).acc.toNat ≤ 65537)
      ∧ (openAt 23 65537 0x10FFFF).gateActive = true ∧ (openAt 23 65537 0x10FFFF).bitIndex.toNat = 23
        ∧ (openAt 23 65537 0x10FFFF).bitIndex.toNat < 24
        ∧ (openAt 23 65537 0x10FFFF).acc.toNat ≤ 65537
        ∧ gateSeen (openAt 23 65537 0x10FFFF).gatePrev [.clk true, .smp false true true, .main]
            = false := by
  decide

/-- ClockWithoutAWindowDoesNothing: after a completed frame. -/
theorem witness_ineffective_clock : (completed 12345 0x003039).gateActive = false := by decide

/-- SampleDerivesTheEdgeEvents, its four clauses, and SimultaneousEdgesTakeAFreshOrder. -/
theorem witness_sample :
    (linesLow.bitIndex.toNat < 24 ∧ (openAt 23 0 0).bitIndex.toNat < 24)
      ∧ (¬((openAt 23 0 0).gatePrev = false ∧ true = true)
          ∧ ¬((openAt 23 0 0).clkPrev = false ∧ true = true))
      ∧ ((linesLow.gatePrev = false ∧ true = true) ∧ ¬(linesLow.clkPrev = false ∧ false = true))
      ∧ (¬(linesLow.gatePrev = false ∧ false = true) ∧ linesLow.clkPrev = false ∧ true = true)
      ∧ ((linesLow.gatePrev = false ∧ true = true) ∧ linesLow.clkPrev = false ∧ true = true) := by
  decide

/-- CaptureOperationsLeaveTheMainAgentAlone: each of the three operations at the last index. -/
theorem witness_capture :
    isCapture .gate = true ∧ isCapture (.clk true) = true
      ∧ isCapture (.smp true true true) = true ∧ (openAt 23 0 0).bitIndex.toNat < 24 := by
  decide

/-- CapturedFrameIsFrozenUntilTheNextGate: clocks, samples and MAIN after a frame. -/
theorem witness_frozen :
    (completed 12345 0x003039).gateActive = false
      ∧ gateSeen (completed 12345 0x003039).gatePrev
          [.clk true, .main, .smp false false false, .smp false true true, .main] = false := by
  decide

/-- AlignedFrameIsCapturedWhole: one clock, and all 24, over an old negative frame. -/
theorem witness_aligned :
    (completed 6 0x100005).bitIndex = 0
      ∧ (completed 6 0x100005).sign = (completed 6 0x100005).bits.getLsbD 20
      ∧ (0 < 1 ∧ 1 ≤ 24) ∧ 0 < 24 ∧ 24 ≤ 24 := by
  decide

/-- MisalignedFrameCompletesEarlyAndHeals: the shortest and the longest short frame. -/
theorem witness_misaligned :
    ((openAt 1 1 1).bitIndex.toNat = 1 ∧ 0 < 1 ∧ 1 < 24)
      ∧ (openAt 23 2469 0x0009A5).bitIndex.toNat = 23 ∧ 0 < 23 ∧ 23 < 24 := by
  decide

/-- ExtraClocksAreDropped, and UnusedPositionsHaveNoEffect: all six unused positions differ. -/
theorem witness_unused :
    State.reset.bitIndex = 0
      ∧ (∀ i, i < 24 → unusedPosition i = false →
          (0x000064#24).getLsbD i = (0x6F0064#24).getLsbD i)
      ∧ (0x000064#24) ≠ 0x6F0064#24 := by
  decide

/-- MillimetreDigitsAreTheDecimalDigits, at the bound. -/
theorem witness_mm_digits :
    (⟨65537, false, true, true⟩ : Snapshot).u = false
      ∧ (⟨65537, false, true, true⟩ : Snapshot).m.toNat ≤ 65537 := by
  decide

/-- InchDigitsKeepTheCarryAsymmetry, at both bounds and at the carry. -/
theorem witness_inch_digits :
    ∀ x ∈ ([⟨19999, true, false, true⟩, ⟨2, true, true, true⟩, ⟨0, true, false, false⟩,
        ⟨2480, true, false, true⟩] : List Snapshot),
      x.u = true ∧ x.c.toNat ≤ x.m.toNat / 2 ∧ x.m.toNat / 2 ≤ 9999 := by
  decide

/-- DecodePhaseTakesOneAtomicSnapshot: a state that meets its hypotheses for each clause. -/
theorem witness_decode_phase :
    (∀ s ∈ [openAt 10 57 0x000039, completed 12345 0x003039, completed 58369 0xC0E439],
        s.fault = none ∧ s.hookBlocked = false ∧ s.phase = .decode)
      ∧ (openAt 10 57 0x000039).gateActive = true
      ∧ ((completed 12345 0x003039).gateActive = false
        ∧ (valueOf (decodeMeasurement (completed 12345 0x003039).snapshot)).isSome = true)
      ∧ (completed 58369 0xC0E439).gateActive = false
        ∧ errorOf (decodeMeasurement (completed 58369 0xC0E439).snapshot) = some .hTooLarge := by
  decide

/-- MillimetreFrameReachesTheRecord and InchFrameReachesTheRecordOrFaults: the largest `raw`, and the
last `raw` before the fault and the first with it, for either sign. -/
theorem witness_frames :
    (65535 < 65536 ∧ State.reset.bitIndex = 0 ∧ State.reset.fault = none
        ∧ State.reset.hookBlocked = false ∧ State.reset.phase = .decode)
      ∧ (19998 + false.toNat + 1 < 20000 ∧ 19997 + true.toNat + 1 < 20000)
      ∧ ¬(19999 + false.toNat + 1 < 20000) ∧ ¬(19998 + true.toNat + 1 < 20000) := by
  decide

/-- ScanStepRendersOnePosition: inside a cycle at the point's position, at the end of a cycle, and at
the end of the pass. -/
theorem witness_scan_step :
    ∀ s ∈ [scanning false 0 3, scanning true 429 5, scanning false 430 5],
      ((∃ hp : s.pos.toNat < 6, s.record[s.pos.toNat].toNat < 13)
        ∧ s.fault = none ∧ s.hookBlocked = false ∧ s.phase = .scan) := by
  decide

/-- WordSelectsExactlyItsPosition. -/
theorem witness_word_selects :
    (scanning false 0 0).board.wf = true
      ∧ ∀ p : Fin 6, (scanning false 0 0).record[p].toNat < 13 := by
  decide

/-- RefreshCycleShowsTheSixDigits, in the middle and at the end of a pass; DecodeComesWithinOnePass
at the first and the last place of a pass. -/
theorem witness_refresh :
    ∀ s ∈ [scanning false 0 0, scanning false 430 0, scanning false 430 5],
      s.Good ∧ s.hookBlocked = false ∧ s.phase = .scan := by
  decide

theorem mainCount_replicate (n : Nat) : mainCount (List.replicate n .main) = n := by
  induction n with
  | zero => rfl
  | succ n ih => simp [List.replicate_succ, mainCount, ih]

/-- ScanPassIsUndisturbedByCapture: a pass with a gate edge and a clock before it. -/
theorem witness_scan_pass :
    ((scanning false 0 0).Good ∧ (scanning false 0 0).hookBlocked = false
        ∧ (scanning false 0 0).phase = .scan ∧ (scanning false 0 0).cyc = 0
        ∧ (scanning false 0 0).pos = 0 ∧ (scanning false 0 0).board.unitSrc = .latched)
      ∧ (∀ i ∈ Instr.gate :: .clk true :: List.replicate 2586 .main,
          i = .main ∨ isCapture i = true)
      ∧ mainCount (.gate :: .clk true :: List.replicate 2586 .main) = 2586 := by
  refine ⟨by decide, fun i hi => ?_, ?_⟩
  swap
  · rw [mainCount, mainCount, mainCount_replicate]; decide
  rcases List.mem_cons.1 hi with rfl | hi
  · exact .inr rfl
  · rcases List.mem_cons.1 hi with rfl | hi
    · exact .inr rfl
    · exact .inl (List.eq_of_mem_replicate hi)

/-- ChainOutputsFollowTheTrace: before the first word, and after one. -/
theorem witness_chain :
    State.reset.outputInv
      ∧ ({ State.reset with out := [.dwell, .word 0x08CF], outLatch := 0x08CF } : State).outputInv := by
  decide

/-- DisplayIgnoresCaptureState: two states with different capture state. -/
theorem witness_display :
    (scanning false 0 0).phase = .scan ∧ (scanning false 0 0).board.unitSrc = .latched
      ∧ ({ scanning false 0 0 with bits := 0x800000, gateActive := true } : State).withCaptureOf
          (scanning false 0 0) = scanning false 0 0 := by
  decide

/-- StoppedMainAgentTakesNoStep: either reason. -/
theorem witness_stopped :
    (({ State.reset with fault := some (.tableRange .w 24) } : State).fault ≠ none)
      ∧ ({ State.reset with hookBlocked := true } : State).hookBlocked = true := by
  decide

/-- SequencerFollowsItsTable: the four rows of R172, and a decode that faults. -/
theorem witness_sequencer :
    ∀ s ∈ [State.reset, scanning false 7 4, scanning false 429 5, scanning false 430 5,
        completed 58369 0xC0E439],
      s.sequencerInv ∧ s.fault = none ∧ s.hookBlocked = false := by
  decide

/-- ModelFaultsAreRecordedAndChangeNothingElse, clauses 1 and 2: the two decode faults, at their
bounds. -/
theorem witness_decode_faults :
    ((completed 20000 0x804E1F).fault = none ∧ (completed 20000 0x804E1F).hookBlocked = false
        ∧ (completed 20000 0x804E1F).phase = .decode
        ∧ (completed 20000 0x804E1F).gateActive = false
        ∧ (completed 20000 0x804E1F).bits.getLsbD 23 = true
        ∧ 10000 ≤ (completed 20000 0x804E1F).acc.toNat / 2)
      ∧ (completed 1 0x800001).fault = none ∧ (completed 1 0x800001).hookBlocked = false
        ∧ (completed 1 0x800001).phase = .decode ∧ (completed 1 0x800001).gateActive = false
        ∧ (completed 1 0x800001).bits.getLsbD 23 = true
        ∧ (completed 1 0x800001).bits.getLsbD 0 = true
        ∧ (completed 1 0x800001).acc.toNat / 2 = 0 := by
  decide

/-- The same, clauses 3 to 5: an index one past the end of each table. -/
theorem witness_table_faults :
    (∃ hp : ({ scanning false 0 0 with record := #v[13, 0, 0, 0, 0, 0] } : State).pos.toNat < 6,
        13 ≤ ({ scanning false 0 0 with record := #v[13, 0, 0, 0, 0, 0] } : State).record[
          ({ scanning false 0 0 with record := #v[13, 0, 0, 0, 0, 0] } : State).pos.toNat].toNat)
      ∧ ((scanning false 0 6).fault = none ∧ (scanning false 0 6).hookBlocked = false
        ∧ (scanning false 0 6).phase = .scan ∧ 6 ≤ (scanning false 0 6).pos.toNat)
      ∧ (openAt 24 0 0).fault = none ∧ (openAt 24 0 0).gateActive = true
        ∧ 24 ≤ (openAt 24 0 0).bitIndex.toNat := by
  decide

/-- FaultChangesOnlyTheMarkAndStaysUntilReset: an operation that raises one, and a state that has
one, from which CLK answers a next state (ResetRestoresEveryElement, last clause). -/
theorem witness_fault_stays :
    (completed 58369 0xC0E439).fault = none
      ∧ after .main (completed 58369 0xC0E439) (fun t => t.fault.isSome) = some true
      ∧ ({ State.reset with fault := some (.tableRange .w 24) } : State).fault
          = some (.tableRange .w 24)
      ∧ Instr.clk true ≠ .reset
      ∧ after (.clk true) { State.reset with fault := some (.tableRange .w 24) }
          (fun t => t.gateActive) = some false := by
  decide

/-- HeldMainAgentKeepsTheDisplay: held after a cycle, with each operation but RESET. -/
theorem witness_held :
    ({ afterCycle (scanning false 1 0) with hookBlocked := true } : State).hookBlocked = true
      ∧ ∀ i ∈ [Instr.main, .gate, .clk true, .smp true true true], i ≠ .reset := by
  decide

/-- EveryStepKeepsTheInvariant: a held state, and a state inside a frame and a pass with its step. -/
theorem witness_invariant :
    ({ afterCycle (scanning false 1 0) with hookBlocked := true } : State).Inv ∧
    ({ scanning false 430 5 with gateActive := true, bitIndex := 3, acc := 7, bits := 7 } : State).Inv
      ∧ (nextOf (step { scanning false 430 5 with
          gateActive := true, bitIndex := 3, acc := 7, bits := 7 })).isSome = true := by
  decide

end Sys2Proof.Tests
end

section
/-! SUPPORT. The state after reset (R39): one equation per element, so that a proof about a run from
reset does not unfold `State.reset`. -/

namespace Sys2Proof.Machine

@[simp] theorem State.reset_gateActive : State.reset.gateActive = false := rfl
@[simp] theorem State.reset_bitIndex : State.reset.bitIndex = 0 := rfl
@[simp] theorem State.reset_acc : State.reset.acc = 0 := rfl
@[simp] theorem State.reset_bits : State.reset.bits = 0 := rfl
@[simp] theorem State.reset_sign : State.reset.sign = false := rfl
@[simp] theorem State.reset_gatePrev : State.reset.gatePrev = true := rfl
@[simp] theorem State.reset_clkPrev : State.reset.clkPrev = true := rfl
@[simp] theorem State.reset_record : State.reset.record = #v[12, 0, 0, 0, 0, 0] := rfl
@[simp] theorem State.reset_recUnit : State.reset.recUnit = false := rfl
@[simp] theorem State.reset_phase : State.reset.phase = .decode := rfl
@[simp] theorem State.reset_cyc : State.reset.cyc = 0 := rfl
@[simp] theorem State.reset_pos : State.reset.pos = 0 := rfl
@[simp] theorem State.reset_fault : State.reset.fault = none := rfl
@[simp] theorem State.reset_out : State.reset.out = [] := rfl

/-- The trace is held newest first (assumption 13); an empty one reads the same in R11's order. -/
theorem State.outTrace_of_out_eq_nil {s : State} (hout : s.out = []) : s.outTrace = [] := by
  rw [State.outTrace, hout, List.reverse_nil]

/-- Settles O44, row by row of R39's table; `out_latch`, which has no value there, has no row. -/
theorem stateAfterResetIsAsListed : Obligations.StateAfterResetIsAsListed :=
  ⟨State.reset_gateActive, State.reset_bitIndex, State.reset_acc, State.reset_bits,
    State.reset_sign, State.reset_gatePrev, State.reset_clkPrev, State.reset_record,
    State.reset_recUnit, State.reset_phase, State.reset_cyc, State.reset_pos, State.reset_fault,
    State.outTrace_of_out_eq_nil State.reset_out⟩

end Sys2Proof.Machine
end

section
/-! SUPPORT. The stimulus bytes, the pseudo-operations and the weight table
(`spec/30_encoding.md` rules R81, R82, R95, R96, R99). -/

namespace Sys2Proof.Machine

/-! ### Bytes and traces of bytes (R95, R96) -/

/-- Settles O1: each byte of R95 is the code of its operation, which is read back. -/
theorem stimulusBytesNameTheirOperations : Obligations.StimulusBytesNameTheirOperations :=
  ⟨Laws.EncodedByteDecodes.gate,
    Laws.EncodedByteDecodes.clk false, Laws.EncodedByteDecodes.clk true,
    Laws.EncodedByteDecodes.smp false false false, Laws.EncodedByteDecodes.smp false false true,
    Laws.EncodedByteDecodes.smp false true false, Laws.EncodedByteDecodes.smp false true true,
    Laws.EncodedByteDecodes.smp true false false, Laws.EncodedByteDecodes.smp true false true,
    Laws.EncodedByteDecodes.smp true true false, Laws.EncodedByteDecodes.smp true true true,
    Laws.EncodedByteDecodes.main, Laws.EncodedByteDecodes.reset⟩

/-- R96's list of the reserved bytes, by their `op` and `arg` fields: 243 of the 256. -/
theorem decodeByte_eq_none_iff : ∀ b : Byte, decodeByte b = none ↔
    (let op := b.extractLsb' 4 4
     let arg := b.extractLsb' 0 4
     op = 0x0 ∨ (0x5 ≤ op ∧ op ≤ 0xE) ∨ ((op = 0x1 ∨ op = 0x4 ∨ op = 0xF) ∧ arg ≠ 0)
       ∨ (op = 0x2 ∧ arg.extractLsb' 1 3 ≠ 0) ∨ (op = 0x3 ∧ arg.getLsbD 3 = true)) := by
  decide

theorem decodeFrom_cons_of_none {b : Byte} (hb : decodeByte b = none) (n : Nat)
    (rest : List Byte) : decodeFrom n (b :: rest) = .error ⟨b, n⟩ := by
  simp [decodeFrom, hb]

/-- Behind a byte that names an operation, the refusal is that of the bytes that follow. -/
theorem decodeFrom_cons_eq_error_iff {b : Byte} (hb : decodeByte b ≠ none) (n : Nat)
    (rest : List Byte) (e : ReservedStimulus) :
    decodeFrom n (b :: rest) = .error e ↔ decodeFrom (n + 1) rest = .error e := by
  obtain ⟨i, hi⟩ := Option.ne_none_iff_exists'.1 hb
  cases hr : decodeFrom (n + 1) rest <;> simp [decodeFrom, hi, hr]

/-- The refusal of a trace whose first byte stands at place `n` names the first reserved byte and
its place. -/
theorem decodeFrom_eq_error_iff (bytes : List Byte) (n : Nat) (e : ReservedStimulus) :
    decodeFrom n bytes = .error e ↔
      decodeByte e.byte = none ∧ ∃ before after, bytes = before ++ e.byte :: after
        ∧ n + before.length = e.position ∧ ∀ b ∈ before, decodeByte b ≠ none := by
  induction bytes generalizing n with
  | nil => simp [decodeFrom]
  | cons b rest ih =>
    by_cases hb : decodeByte b = none
    · rw [decodeFrom_cons_of_none hb]
      constructor
      · rintro ⟨⟩
        exact ⟨hb, [], rest, rfl, rfl, by simp⟩
      · rintro ⟨-, _ | ⟨a, before⟩, after, hsplit, hpos, hbefore⟩
        · obtain ⟨rfl, rfl⟩ := List.cons.inj hsplit
          obtain rfl : n = e.position := hpos
          rfl
        · obtain ⟨rfl, -⟩ := List.cons.inj hsplit
          exact absurd hb (hbefore b List.mem_cons_self)
    · rw [decodeFrom_cons_eq_error_iff hb, ih]
      refine and_congr_right fun he => ⟨?_, ?_⟩
      · rintro ⟨before, after, rfl, hpos, hbefore⟩
        exact ⟨b :: before, after, rfl, by rw [List.length_cons]; omega,
          List.forall_mem_cons.2 ⟨hb, hbefore⟩⟩
      · rintro ⟨_ | ⟨a, before⟩, after, hsplit, hpos, hbefore⟩
        · obtain ⟨rfl, -⟩ := List.cons.inj hsplit
          exact absurd he hb
        · obtain ⟨rfl, rfl⟩ := List.cons.inj hsplit
          rw [List.length_cons] at hpos
          exact ⟨before, after, rfl, by omega, (List.forall_mem_cons.1 hbefore).2⟩

theorem State.loadTrace_of_error (s : State) {bytes : List Byte} {e : ReservedStimulus}
    (h : decodeTrace bytes = .error e) :
    s.loadTrace bytes = .refused (.reservedStimulus e.byte e.position) := by
  rw [State.loadTrace, h]

/-- Settles O2, the trace clause by induction on the bytes. -/
theorem reservedStimuliAreRefusedByNameAndPosition :
    Obligations.ReservedStimuliAreRefusedByNameAndPosition := by
  refine ⟨decodeByte_eq_none_iff, fun bytes e => ?_, fun s _ _ h => s.loadTrace_of_error h⟩
  rw [decodeTrace]
  simpa only [Nat.zero_add] using decodeFrom_eq_error_iff bytes 0 e

/-! ### Pseudo-operations (R99) -/

@[simp] theorem encodeTrace_length (is : List Instr) : (encodeTrace is).length = is.length :=
  List.length_map ..

@[simp] theorem frameOps_length (bits : List Level) : (frameOps bits).length = bits.length + 1 := by
  simp [frameOps]

@[simp] theorem measBits_length (raw : Nat) (s u : Level) : (measBits raw s u).length = 24 := by
  simp [measBits]

theorem measBits_getElem? (raw : Nat) (s u : Level) {i : Nat} (hi : i < 24) :
    (measBits raw s u)[i]? = some (measBit raw s u i) := by
  simp [measBits, hi]

/-- A pseudo-operation makes one byte per operation it stands for. -/
theorem assemble_singleton_length (p : Pseudo) : (assemble [p]).length = (expand p).length := by
  simp [assemble]

theorem wf_frame_iff (bits : List Level) :
    (Pseudo.frame bits).wf = true ↔ bits.length = 24 := by
  simp [Pseudo.wf]

/-- Settles O4: the expansions by definition, the byte counts by the lengths of the expansions. -/
theorem pseudoOperationsExpandAsListed : Obligations.PseudoOperationsExpandAsListed := by
  refine ⟨fun _ => rfl, fun raw s u => ⟨measBits raw s u, rfl, measBits_length raw s u,
    fun i hi => measBits_getElem? raw s u hi⟩, fun _ => rfl, rfl, rfl, fun _ => rfl,
    fun bits hwf => ?frame, fun raw s u => ?meas, fun bits => ?clks, rfl, ?pass, fun _ => rfl,
    by decide⟩
  case frame =>
    simp [assemble_singleton_length, expand, (wf_frame_iff bits).1 hwf]
  case meas => simp [assemble_singleton_length, expand]
  case clks => simp [assemble_singleton_length, expand]
  case pass => rw [assemble_singleton_length, expand, List.length_replicate]

/-! ### The weight table (R81, R82) -/

theorem weights_toNat : ∀ i : Fin 24, weights[i].toNat = weightOf i := by
  decide

/-- Settles O5: the table entry by entry, each against its place in the layout, and their sum. -/
theorem weightTableHoldsItsWeights : Obligations.WeightTableHoldsItsWeights :=
  ⟨by decide, weights_toNat, by decide⟩

end Sys2Proof.Machine
end

section
/-! SUPPORT. The shift-register chain at bit level (`spec/30_encoding.md` rule R94,
`spec/42_display.md` rule R160). -/

namespace Sys2Proof.Machine

/-! ### The serial form of a word -/

theorem shiftsFrom_length (w : Word16) (n : Nat) : (shiftsFrom w n).length = n := by
  induction n with
  | zero => rfl
  | succ n ih => rw [shiftsFrom, List.length_cons, ih]

theorem wordBits_length (w : Word16) : (wordBits w).length = 17 := by
  rw [wordBits, List.length_append, shiftsFrom_length, List.length_singleton]

/-- The shifts go down from bit `n - 1`: the most significant bit comes first. -/
theorem shiftsFrom_getElem? (w : Word16) {n i : Nat} (hi : i < n) :
    (shiftsFrom w n)[i]? = some (.shift (w.getLsbD (n - 1 - i))) := by
  induction n generalizing i with
  | zero => omega
  | succ n ih =>
    cases i with
    | zero => rfl
    | succ i =>
      rw [shiftsFrom, List.getElem?_cons_succ, ih (by omega),
        show n + 1 - 1 - (i + 1) = n - 1 - i by omega]

theorem wordBits_getElem?_shift (w : Word16) {i : Nat} (hi : i < 16) :
    (wordBits w)[i]? = some (.shift (w.getLsbD (15 - i))) := by
  rw [wordBits, List.getElem?_append_left (by rwa [shiftsFrom_length]), shiftsFrom_getElem? w hi]

theorem wordBits_getElem?_latch (w : Word16) : (wordBits w)[16]? = some .latch := by
  rw [wordBits, List.getElem?_append_right (shiftsFrom_length w 16).le, shiftsFrom_length]
  rfl

theorem latch_notMem_shiftsFrom (w : Word16) (n : Nat) : BitEvent.latch ∉ shiftsFrom w n := by
  induction n with
  | zero => exact List.not_mem_nil
  | succ n ih => simp [shiftsFrom, ih]

/-! ### The chain -/

@[simp] theorem Chain.onEvent_shift_outputs (c : Chain) (b : Bool) :
    (c.onEvent (.shift b)).outputs = c.outputs := rfl

@[simp] theorem Chain.onEvent_latch (c : Chain) : c.onEvent .latch = ⟨c.shifted, c.shifted⟩ := rfl

/-- A shift puts the new bit at the near end and every other bit one place on. -/
theorem Chain.onEvent_shift_getLsbD (c : Chain) (b : Bool) {j : Nat} (hj : j < 16) :
    (c.onEvent (.shift b)).shifted.getLsbD j = if j = 0 then b else c.shifted.getLsbD (j - 1) := by
  cases j with
  | zero => cases b <;> simp [Chain.onEvent]
  | succ j =>
    have hold : c.shifted.getLsbD j = c.shifted[j] := BitVec.getLsbD_eq_getElem (by omega)
    cases b <;> simp [Chain.onEvent, hj, hold]

theorem Chain.run_append (c : Chain) (es fs : List BitEvent) :
    c.run (es ++ fs) = (c.run es).run fs := by
  induction es generalizing c with
  | nil => rfl
  | cons e es ih => exact ih _

/-- Until a latch comes the outputs keep the word they show. -/
theorem Chain.run_outputs_of_latch_notMem {es : List BitEvent} (h : BitEvent.latch ∉ es)
    (c : Chain) : (c.run es).outputs = c.outputs := by
  induction es generalizing c with
  | nil => rfl
  | cons e es ih =>
    obtain ⟨he, hes⟩ := List.ne_and_not_mem_of_not_mem_cons h
    cases e with
    | shift b => exact ih hes _
    | latch => exact absurd rfl he

/-- After the shifts of the low `n` bits of `w` these stand at their own places, and what the chain
held has moved `n` places on. -/
theorem Chain.run_shiftsFrom_getLsbD (w : Word16) (n : Nat) (c : Chain) {j : Nat} (hj : j < 16) :
    (c.run (shiftsFrom w n)).shifted.getLsbD j
      = if j < n then w.getLsbD j else c.shifted.getLsbD (j - n) := by
  induction n generalizing c with
  | zero => rfl
  | succ n ih =>
    rw [shiftsFrom, Chain.run, ih]
    rcases Nat.lt_trichotomy j n with hlt | rfl | hgt
    · rw [if_pos hlt, if_pos (by omega)]
    · rw [if_neg (lt_irrefl j), if_pos (Nat.lt_succ_self j), Nat.sub_self,
        Chain.onEvent_shift_getLsbD c _ (by omega), if_pos rfl]
    · rw [if_neg (by omega), if_neg (by omega), Chain.onEvent_shift_getLsbD c _ (by omega),
        if_neg (by omega), Nat.sub_sub]

/-- Sixteen shifts replace all that the chain held. -/
theorem Chain.run_shiftsFrom_shifted (w : Word16) (c : Chain) :
    (c.run (shiftsFrom w 16)).shifted = w :=
  BitVec.eq_of_getLsbD_eq fun j hj => by
    rw [Chain.run_shiftsFrom_getLsbD w 16 c hj, if_pos hj]

/-- A whole word ends in the shift register and on the outputs, whatever the chain held. -/
theorem Chain.run_wordBits (w : Word16) (c : Chain) : c.run (wordBits w) = ⟨w, w⟩ := by
  rw [wordBits, Chain.run_append, Chain.run, Chain.run, Chain.onEvent_latch,
    Chain.run_shiftsFrom_shifted]

/-- No part of a word short of its latch changes the outputs. -/
theorem Chain.run_take_wordBits_outputs (w : Word16) (c : Chain) {n : Nat} (hn : n ≤ 16) :
    (c.run ((wordBits w).take n)).outputs = c.outputs := by
  rw [wordBits, List.take_append_of_le_length (by rwa [shiftsFrom_length])]
  exact Chain.run_outputs_of_latch_notMem
    (fun h => latch_notMem_shiftsFrom w 16 (List.mem_of_mem_take h)) c

/-- Settles O33: the form of the word event by event, then what the chain makes of it. -/
theorem driverShiftsMostSignificantBitFirst : Obligations.DriverShiftsMostSignificantBitFirst :=
  fun w c => ⟨wordBits_length w, fun _ hi => wordBits_getElem?_shift w hi,
    wordBits_getElem?_latch w, fun _ hn => c.run_take_wordBits_outputs w hn, c.run_wordBits w⟩

end Sys2Proof.Machine
end

section
/-! SUPPORT. The capture of a frame from any index on (`spec/40_capture.md` rules R112 to R117): what
stands in the state after each of its clocks. -/

namespace Sys2Proof.Machine

/-! ### Runs -/

theorem execAll_cons_of_next {i : Instr} {s t : State} (h : exec i s = .next t)
    (is : List Instr) : execAll (i :: is) s = execAll is t := by
  rw [execAll, h]

theorem execAll_append_of_next {is : List Instr} {s t : State} (h : execAll is s = .next t)
    (js : List Instr) : execAll (is ++ js) s = execAll js t := by
  induction is generalizing s with
  | nil => cases h; rfl
  | cons i is ih =>
    rw [execAll] at h
    rw [List.cons_append, execAll]
    cases hi : exec i s with
    | next u => rw [hi] at h; exact ih h
    | fault f => rw [hi] at h; cases h
    | refused r => rw [hi] at h; cases h

theorem frameClocks_succ (b : FrameBits) (n : Nat) :
    frameClocks b (n + 1) = frameClocks b n ++ [.clk (b.getLsbD n)] := by
  simp [frameClocks, List.range_succ]

/-! ### Weights -/

theorem weights_eq_ofNat {i : Nat} (hi : i < 24) : weights[i] = BitVec.ofNat 17 (weightOf i) :=
  BitVec.eq_of_toNat_eq (by
    rw [← weights_toNat ⟨i, hi⟩]
    simp)

theorem weigh_ofNat (n : Nat) (d : Level) :
    weigh (BitVec.ofNat 17 n) d = BitVec.ofNat 17 (n * d.toNat) := by
  cases d <;> simp [weigh]

theorem weightOf_of_unusedPosition {i : Nat} (hi : unusedPosition i = true) : weightOf i = 0 := by
  simp only [unusedPosition, Bool.or_eq_true, Bool.and_eq_true, decide_eq_true_eq,
    beq_iff_eq] at hi
  rw [weightOf, if_neg (by omega), if_neg (by omega)]

/-- The unused positions do not count in the sum of an aligned frame (R84). -/
theorem weighted_congr {b b' : FrameBits} {n : Nat}
    (h : ∀ i, i < n → unusedPosition i = false → b.getLsbD i = b'.getLsbD i) :
    weighted b 0 n = weighted b' 0 n := by
  induction n with
  | zero => rfl
  | succ n ih =>
    rw [weighted, weighted, ih fun i hi => h i (by omega), Nat.zero_add]
    cases hu : unusedPosition n with
    | true => rw [weightOf_of_unusedPosition hu, Nat.zero_mul, Nat.zero_mul]
    | false => rw [h n n.lt_succ_self hu]

/-! ### The clocks of a frame -/

/-- `t` is `s` after the GATE and the first `n` clocks of the frame `b`, the window not yet closed:
the bits and their weights landed from the index of `s` on. -/
structure InFrame (s : State) (b : FrameBits) (n : Nat) (t : State) : Prop where
  gateActive : t.gateActive = true
  bitIndex : t.bitIndex.toNat = s.bitIndex.toNat + n
  acc : t.acc = BitVec.ofNat 17 (weighted b s.bitIndex.toNat n)
  bits : ∀ j, j < 24 → t.bits.getLsbD j =
    if s.bitIndex.toNat ≤ j ∧ j < s.bitIndex.toNat + n then b.getLsbD (j - s.bitIndex.toNat)
    else s.bits.getLsbD j
  sign : t.sign = if n = 0 then s.sign else signFlag t.bits
  frame : t.withFrameOf s = s

theorem inFrame_gateEdge (s : State) (b : FrameBits) : InFrame s b 0 (gateEdge s) where
  gateActive := rfl
  bitIndex := rfl
  acc := rfl
  bits j _ := by rw [if_neg (by omega)]; rfl
  sign := rfl
  frame := rfl

/-- What CLOCK_EDGE stores before it looks whether the frame is complete (R113). -/
def State.clocked (s : State) (d : Level) : State :=
  s.storeBit (writeBit s.bits s.bitIndex.toNat d)
    (s.acc + BitVec.ofNat 17 (weightOf s.bitIndex.toNat * d.toNat))
    (signFlag (writeBit s.bits s.bitIndex.toNat d))

theorem exec_clk_of_open {s : State} (hg : s.gateActive = true) (hi : s.bitIndex.toNat < 24)
    (d : Level) : exec (.clk d) s = .next (completeIfFull (s.clocked d)) := by
  obtain ⟨hg', -⟩ | ⟨_, -, h⟩ | ⟨-, hge, -⟩ := clockEdge_cases d s
  · exact absurd hg (by simp [hg'])
  · rw [exec_clk, h, State.settle_ok, weights_eq_ofNat hi, weigh_ofNat, State.clocked]
  · omega

/-- One more clock of the frame, taken at an index inside it. -/
theorem InFrame.clocked {s t : State} {b : FrameBits} {n : Nat} (h : InFrame s b n t)
    (hn : s.bitIndex.toNat + n < 24) : InFrame s b (n + 1) (t.clocked (b.getLsbD n)) where
  gateActive := h.gateActive
  bitIndex := by
    have hi := h.bitIndex
    simp only [State.clocked, State.storeBit_bitIndex]
    bv_omega
  acc := by
    simp only [State.clocked, State.storeBit_acc]
    rw [h.acc, h.bitIndex, weighted, BitVec.ofNat_add]
  bits j hj := by
    simp only [State.clocked, State.storeBit_bits]
    rw [writeBit_getLsbD _ _ _ _ hj, h.bits j hj, h.bitIndex]
    by_cases hlast : j = s.bitIndex.toNat + n
    · rw [if_pos hlast, if_pos (by omega), hlast, Nat.add_sub_cancel_left]
    · rw [if_neg hlast]
      exact if_congr (by omega) rfl rfl
  sign := rfl
  frame := h.frame

theorem InFrame.completeIfFull_eq {s t : State} {b : FrameBits} {n : Nat} (h : InFrame s b n t)
    (hn : s.bitIndex.toNat + n < 24) : completeIfFull t = t := by
  obtain ⟨hfull, -⟩ | ⟨-, hopen⟩ := completeIfFull_cases t
  · rw [h.bitIndex] at hfull; omega
  · exact hopen

theorem InFrame.completeIfFull_last {s t : State} {b : FrameBits} {n : Nat} (h : InFrame s b n t)
    (hn : s.bitIndex.toNat + n = 24) : completeIfFull t = t.closeWindow := by
  obtain ⟨-, hclose⟩ | ⟨hopen, -⟩ := completeIfFull_cases t
  · exact hclose
  · rw [h.bitIndex] at hopen; omega

/-- A GATE and the clocks that fit into the frame store their bits one after the other, and the last
one, if it fills the frame, closes the window. -/
theorem execAll_frameClocks {s : State} (hs : s.bitIndex.toNat < 24) (b : FrameBits) {n : Nat}
    (hn : s.bitIndex.toNat + n ≤ 24) :
    ∃ t, execAll (.gate :: frameClocks b n) s = .next (completeIfFull t) ∧ InFrame s b n t := by
  induction n with
  | zero =>
    have h0 := inFrame_gateEdge s b
    refine ⟨gateEdge s, ?_, h0⟩
    rw [h0.completeIfFull_eq hs]
    exact execAll_cons_of_next (exec_gate s) []
  | succ n ih =>
    obtain ⟨t, hrun, ht⟩ := ih (by omega)
    rw [ht.completeIfFull_eq (by omega)] at hrun
    refine ⟨_, ?_, ht.clocked (by omega)⟩
    rw [frameClocks_succ, ← List.cons_append, execAll_append_of_next hrun]
    exact execAll_cons_of_next
      (exec_clk_of_open ht.gateActive (by rw [ht.bitIndex]; omega) _) []

/-- `s` with the whole frame `b` captured by an aligned transmission (R116). -/
def State.captured (s : State) (b : FrameBits) : State :=
  { s with
    gateActive := false, bitIndex := 0, acc := BitVec.ofNat 17 (weighted b 0 24), bits := b,
    sign := signFlag b }

theorem InFrame.closeWindow_eq_captured {s t : State} {b : FrameBits} (hs : s.bitIndex = 0)
    (h : InFrame s b 24 t) : t.closeWindow = s.captured b := by
  have hbits : t.bits = b := BitVec.eq_of_getLsbD_eq fun j hj => by
    rw [h.bits j hj, hs]
    exact if_pos ⟨Nat.zero_le j, hj⟩
  have hacc : t.acc = BitVec.ofNat 17 (weighted b 0 24) := by simp [h.acc, hs]
  have hsign : t.sign = signFlag b := by simp [h.sign, hbits]
  calc t.closeWindow
      = { t.withFrameOf s with
          gateActive := false, bitIndex := 0, acc := t.acc, bits := t.bits, sign := t.sign } := rfl
    _ = s.captured b := by rw [h.frame, hacc, hbits, hsign]; rfl

/-- R84 and R116: an aligned frame of any bit pattern is accepted, and this is all it does. -/
theorem execAll_aligned_frame {s : State} (hs : s.bitIndex = 0) (b : FrameBits) :
    execAll (.gate :: frameClocks b 24) s = .next (s.captured b) := by
  have hidx : s.bitIndex.toNat = 0 := by rw [hs]; rfl
  obtain ⟨t, hrun, ht⟩ := execAll_frameClocks (s := s) (n := 24) (by omega) b (by omega)
  rw [hrun, ht.completeIfFull_last (by omega), ht.closeWindow_eq_captured hs]

end Sys2Proof.Machine
end

section
/-! SUPPORT. What the main agent sees of the bit array (`spec/41_decode.md` rule R131,
`spec/42_display.md` rule R153), and so which bits of a frame have no effect (`spec/30_encoding.md`
rule R84). -/

namespace Sys2Proof.Machine

/-- `s` with the bit array `b`, every other element kept. -/
def State.setBits (s : State) (b : FrameBits) : State :=
  { s with bits := b }

section
variable (s : State) (b : FrameBits)

@[simp] theorem State.setBits_bits : (s.setBits b).bits = b := rfl
@[simp] theorem State.setBits_acc : (s.setBits b).acc = s.acc := rfl
@[simp] theorem State.setBits_sign : (s.setBits b).sign = s.sign := rfl
@[simp] theorem State.setBits_gateActive : (s.setBits b).gateActive = s.gateActive := rfl
@[simp] theorem State.setBits_recUnit : (s.setBits b).recUnit = s.recUnit := rfl
@[simp] theorem State.setBits_phase : (s.setBits b).phase = s.phase := rfl
@[simp] theorem State.setBits_cyc : (s.setBits b).cyc = s.cyc := rfl
@[simp] theorem State.setBits_pos : (s.setBits b).pos = s.pos := rfl
@[simp] theorem State.setBits_board : (s.setBits b).board = s.board := rfl
@[simp] theorem State.setBits_mainEnabled : (s.setBits b).mainEnabled = s.mainEnabled := rfl

theorem State.setSequencer_setBits (phase : Phase) (cyc : CycleCount) (pos : Position) :
    (s.setBits b).setSequencer phase cyc pos = (s.setSequencer phase cyc pos).setBits b := rfl

theorem State.advance_setBits : (s.setBits b).advance = s.advance.setBits b := by
  simp only [State.advance, State.setBits_pos, State.setBits_cyc, State.setBits_phase,
    State.setSequencer_setBits, apply_ite (State.setBits · b)]
  rfl

theorem State.raise_setBits (f : Fault) : (s.setBits b).raise f = (s.raise f).setBits b := by
  rw [State.raise_eq, State.raise_eq]
  rfl

theorem State.settle_setBits (r : Except Fault State) :
    (s.setBits b).settle (r.map (State.setBits · b)) = (s.settle r).setBits b := by
  cases r with
  | ok t => rfl
  | error f => exact s.raise_setBits b f

end

/-! ### MAIN reads the correction flag and the unit flag, and no other bit -/

section
variable {s : State} {b : FrameBits}

theorem State.snapshot_setBits (hc : corrFlag b = corrFlag s.bits)
    (hu : unitFlag b = unitFlag s.bits) : (s.setBits b).snapshot = s.snapshot := by
  simp only [State.snapshot, State.setBits_bits, State.setBits_acc, State.setBits_sign, hc, hu]

/-- The one bit the scanner may read is the unit flag, where it is taken live (R153). -/
theorem State.unitNow_setBits (hu : unitFlag b = unitFlag s.bits) :
    (s.setBits b).unitNow = s.unitNow := by
  rw [unitFlag, unitFlag] at hu
  simp only [State.unitNow, State.setBits_board, State.setBits_bits, State.setBits_recUnit, hu]

theorem State.scanWord_setBits (hu : unitFlag b = unitFlag s.bits) :
    (s.setBits b).scanWord = s.scanWord := by
  simp only [State.scanWord, State.dpPosition, State.unitNow_setBits hu]
  rfl

theorem scanStep_setBits (hu : unitFlag b = unitFlag s.bits) :
    scanStep (s.setBits b) = (scanStep s).map (State.setBits · b) := by
  obtain ⟨w, hw, h⟩ | ⟨f, hw, h⟩ := scanStep_cases s
  · rw [h, scanStep, State.scanWord_setBits hu, hw]
    exact congrArg Except.ok ((s.emitWord w).advance_setBits b)
  · rw [h, scanStep, State.scanWord_setBits hu, hw]
    rfl

theorem decodePhase_setBits (hc : corrFlag b = corrFlag s.bits)
    (hu : unitFlag b = unitFlag s.bits) :
    decodePhase (s.setBits b) = (decodePhase s).map (State.setBits · b) := by
  have hsnap := State.snapshot_setBits hc hu
  obtain ⟨hg, h⟩ | ⟨r, hg, hr, h⟩ | ⟨info, hg, hr, h⟩ := decodePhase_cases s
  · rw [h, decodePhase, State.setBits_gateActive, hg]
    rfl
  · rw [h, decodePhase, State.setBits_gateActive, hg, hsnap, hr]
    rfl
  · rw [h, decodePhase, State.setBits_gateActive, hg, hsnap, hr]
    rfl

/-- Two states that differ only in bits other than the correction flag and the unit flag differ in
the same bits, and only there, after a MAIN. -/
theorem mainStep_setBits (hc : corrFlag b = corrFlag s.bits) (hu : unitFlag b = unitFlag s.bits) :
    mainStep (s.setBits b) = (mainStep s).setBits b := by
  obtain ⟨he, -⟩ | ⟨he, hp, -⟩ | ⟨he, hp, -⟩ := mainStep_cases s
  · simp [mainStep, he]
  · simp [mainStep, mainArm, he, hp, decodePhase_setBits hc hu, State.settle_setBits]
  · simp [mainStep, mainArm, he, hp, scanStep_setBits hu, State.settle_setBits]

end

/-! ### The unused positions (R84) -/

/-- Two frames that agree at every position used leave states that differ in their bits alone. -/
theorem State.captured_eq_setBits (s : State) {b b' : FrameBits}
    (h : ∀ i, i < 24 → unusedPosition i = false → b.getLsbD i = b'.getLsbD i) :
    s.captured b' = (s.captured b).setBits b' := by
  have hsign : signFlag b = signFlag b' := h 20 (by decide) rfl
  simp only [State.captured, State.setBits, weighted_congr h, hsign]

/-- Settles O21: the two frames leave states that differ in their bits alone, and in none that MAIN
reads. -/
theorem unusedPositionsHaveNoEffect : Obligations.UnusedPositionsHaveNoEffect := by
  intro s b b' hs h
  have hc : corrFlag b' = corrFlag b := (h 0 (by decide) rfl).symm
  have hu : unitFlag b' = unitFlag b := (h 23 (by decide) rfl).symm
  have hcap := s.captured_eq_setBits h
  have hmain : mainStep (s.captured b') = (mainStep (s.captured b)).setBits b' := by
    rw [hcap, mainStep_setBits (s := s.captured b) hc hu]
  refine ⟨s.captured b, s.captured b', execAll_aligned_frame hs b, execAll_aligned_frame hs b',
    rfl, rfl, rfl, rfl, ?bits, ?snapshot, mainStep (s.captured b), mainStep (s.captured b'),
    exec_main (s.captured b), exec_main (s.captured b'), ?main⟩
  case bits => rw [hcap]; rfl
  case snapshot => rw [hcap]; exact (State.snapshot_setBits (s := s.captured b) hc hu).symm
  case main => rw [hmain]; rfl

end Sys2Proof.Machine
end

section
/-! SUPPORT. The capture events one at a time (`spec/40_capture.md` rules R111 to R115): GATE, an
effective and an ineffective CLK, SMP, and the runs after a completed frame (`spec/10_state.md` rule
R27 item 5). -/

namespace Sys2Proof.Machine

/-! ### GATE and CLK -/

/-- Settles O11: GATE_EDGE writes the window and the accumulator alone. -/
theorem gateEdgeOpensTheWindow : Obligations.GateEdgeOpensTheWindow :=
  exec_gate

theorem clockEdge_of_closed {s : State} (hg : s.gateActive = false) (d : Level) :
    clockEdge d s = .ok s := by
  obtain ⟨-, h⟩ | ⟨_, hopen, -⟩ | ⟨hopen, -, -⟩ := clockEdge_cases d s
  · exact h
  all_goals exact absurd hopen (by simp [hg])

/-- Settles O13: CLOCK_EDGE is dropped where no window is open. -/
theorem clockWithoutAWindowDoesNothing : Obligations.ClockWithoutAWindowDoesNothing := by
  intro s d hg
  rw [exec_clk, clockEdge_of_closed hg, State.settle_ok]

/-! ### Completion writes the window and the index alone (R114) -/

section
variable (s t : State)

theorem completeIfFull_eq : completeIfFull t =
    { t with
      gateActive := (completeIfFull t).gateActive, bitIndex := (completeIfFull t).bitIndex } := by
  obtain ⟨-, h⟩ | ⟨-, h⟩ := completeIfFull_cases t
  · rw [h]
    rfl
  · rw [h]

@[simp] theorem completeIfFull_acc : (completeIfFull t).acc = t.acc :=
  (congrArg State.acc (completeIfFull_eq t) :)

@[simp] theorem completeIfFull_bits : (completeIfFull t).bits = t.bits :=
  (congrArg State.bits (completeIfFull_eq t) :)

@[simp] theorem completeIfFull_sign : (completeIfFull t).sign = t.sign :=
  (congrArg State.sign (completeIfFull_eq t) :)

@[simp] theorem completeIfFull_withFrameOf :
    (completeIfFull t).withFrameOf s = t.withFrameOf s :=
  (congrArg (State.withFrameOf · s) (completeIfFull_eq t) :)

theorem completeIfFull_draw : completeIfFull s.draw = (completeIfFull s).draw := by
  rw [completeIfFull, completeIfFull, State.draw_bitIndex, apply_ite State.draw]
  rfl

end

/-! ### An effective CLK (R113, R114) -/

theorem weightOf_le (i : Nat) : weightOf i ≤ 32768 := by
  by_cases hi : i < 16
  · rw [weightOf, if_pos hi]
    exact Nat.pow_le_pow_right (by decide) (show i ≤ 15 by omega)
  · rw [weightOf, if_neg hi]
    split <;> decide

/-- Within its bound the accumulator has room for one more weight: 65537 + 32768 < 2^17. -/
theorem State.clocked_acc_toNat {s : State} (hacc : s.acc.toNat ≤ 65537) (d : Level) :
    (s.clocked d).acc.toNat = s.acc.toNat + weightOf s.bitIndex.toNat * d.toNat := by
  have hterm : weightOf s.bitIndex.toNat * d.toNat ≤ 32768 :=
    (Nat.mul_le_mul_left _ d.toNat_le).trans (by simpa using weightOf_le _)
  rw [State.clocked, State.storeBit_acc, BitVec.toNat_add, BitVec.toNat_ofNat]
  omega

theorem State.clocked_bitIndex_toNat {s : State} (hi : s.bitIndex.toNat < 24) (d : Level) :
    (s.clocked d).bitIndex.toNat = s.bitIndex.toNat + 1 := by
  rw [State.clocked, State.storeBit_bitIndex]
  bv_omega

/-- The frame is full after the store exactly where the bit stored was the one at index 23. -/
theorem completeIfFull_clocked_window {s : State} (hg : s.gateActive = true)
    (hi : s.bitIndex.toNat < 24) (d : Level) :
    if s.bitIndex.toNat = 23 then
      (completeIfFull (s.clocked d)).gateActive = false
        ∧ (completeIfFull (s.clocked d)).bitIndex = 0
    else
      (completeIfFull (s.clocked d)).gateActive = true
        ∧ (completeIfFull (s.clocked d)).bitIndex.toNat = s.bitIndex.toNat + 1 := by
  have hidx := State.clocked_bitIndex_toNat hi d
  obtain ⟨hfull, h⟩ | ⟨hmore, h⟩ := completeIfFull_cases (s.clocked d)
  · rw [if_pos (by omega), h]
    exact ⟨rfl, rfl⟩
  · rw [if_neg (by omega), h]
    exact ⟨hg, hidx⟩

/-- Settles O12: the store of R113, with the completion of R114 changing only window and index. -/
theorem effectiveClockStoresWeighsAndCounts :
    Obligations.EffectiveClockStoresWeighsAndCounts := by
  intro s d hg hi hacc
  refine ⟨completeIfFull (s.clocked d), exec_clk_of_open hg hi d, ?bits, ?acc, ?sign,
    completeIfFull_clocked_window hg hi d, ?frame⟩
  case bits =>
    intro j hj
    rw [completeIfFull_bits]
    exact writeBit_getLsbD s.bits s.bitIndex.toNat d j hj
  case acc => rw [completeIfFull_acc, State.clocked_acc_toNat hacc]
  case sign =>
    rw [completeIfFull_sign, completeIfFull_bits]
    rfl
  case frame =>
    rw [completeIfFull_withFrameOf]
    rfl

/-! ### SMP (R111) -/

theorem risingEdge_eq_true_iff (prev now : Level) :
    risingEdge prev now = true ↔ prev = false ∧ now = true := by
  simp [risingEdge]

section
variable {s : State} {g c : Level}

theorem sample_of_no_edge (hg : risingEdge s.gatePrev g = false)
    (hc : risingEdge s.clkPrev c = false) (d : Level) :
    sample g c d s = .ok (s.setLevels g c) := by
  simp only [sample, hg, hc]

theorem sample_of_gate_edge (hg : risingEdge s.gatePrev g = true)
    (hc : risingEdge s.clkPrev c = false) (d : Level) :
    sample g c d s = .ok (gateEdge (s.setLevels g c)) := by
  simp only [sample, hg, hc]

theorem sample_of_clock_edge (hg : risingEdge s.gatePrev g = false)
    (hc : risingEdge s.clkPrev c = true) (d : Level) :
    sample g c d s = clockEdge d (s.setLevels g c) := by
  simp only [sample, hg, hc]

theorem sample_of_both_edges (hg : risingEdge s.gatePrev g = true)
    (hc : risingEdge s.clkPrev c = true) (d : Level) :
    sample g c d s = bothEdges (Config.simulOrder s.draws) d (s.setLevels g c).draw := by
  simp only [sample, hg, hc]

end

/-- With the index inside the frame CLOCK_EDGE raises no fault, and outside the capture state it
changes nothing. -/
theorem clockEdge_of_lt {s : State} (hi : s.bitIndex.toNat < 24) (d : Level) :
    ∃ t, clockEdge d s = .ok t ∧ t.withFrameOf s = s := by
  obtain ⟨-, h⟩ | ⟨_, -, h⟩ | ⟨-, hge, -⟩ := clockEdge_cases d s
  · exact ⟨s, h, rfl⟩
  · exact ⟨_, h, completeIfFull_withFrameOf s _⟩
  · omega

/-- CLOCK_EDGE neither reads nor writes the draw counter. -/
theorem clockEdge_draw (d : Level) (s : State) :
    clockEdge d s.draw = (clockEdge d s).map State.draw := by
  rw [clockEdge, clockEdge, State.draw_gateActive, State.draw_bitIndex]
  cases s.gateActive with
  | false => rfl
  | true =>
    cases readWeight s.bitIndex with
    | error f => rfl
    | ok w => exact congrArg Except.ok (completeIfFull_draw (s.storeBit _ _ _))

theorem execAll_pair {i j : Instr} {s t u : State} (hi : exec i s = .next t)
    (hj : exec j t = .next u) : execAll [i, j] s = .next u := by
  rw [execAll_cons_of_next hi, execAll_cons_of_next hj, execAll]

/-- Whichever event SIMUL_ORDER puts first, two edges of one sample are GATE and CLK one after the
other, in a state with one draw more (R111 corner case d). -/
theorem bothEdges_draw {s : State} (hi : s.bitIndex.toNat < 24) (order : SimulOrder) (d : Level) :
    ∃ t, bothEdges order d s.draw = .ok t.draw ∧ t.draws = s.draws
      ∧ (execAll [.gate, .clk d] s = .next t ∨ execAll [.clk d, .gate] s = .next t) := by
  cases order with
  | gateFirst =>
    obtain ⟨t, ht, hframe⟩ := clockEdge_of_lt (s := gateEdge s) hi d
    refine ⟨t, ?_, (congrArg State.draws hframe :), .inl (execAll_pair (exec_gate s) ?_)⟩
    · exact (clockEdge_draw d (gateEdge s)).trans (by rw [ht]; rfl)
    · rw [exec_clk, ht, State.settle_ok]
  | clockFirst =>
    obtain ⟨t, ht, hframe⟩ := clockEdge_of_lt hi d
    refine ⟨gateEdge t, ?_, (congrArg State.draws hframe :), .inr (execAll_pair ?_ (exec_gate t))⟩
    · rw [bothEdges, clockEdge_draw, ht]
      rfl
    · rw [exec_clk, ht, State.settle_ok]

/-- Settles O14, by the four combinations of edges; with the index inside the frame no clock edge
raises a fault. -/
theorem sampleDerivesTheEdgeEvents : Obligations.SampleDerivesTheEdgeEvents := by
  intro s g c d hi
  simp only [← risingEdge_eq_true_iff, Bool.not_eq_true]
  refine ⟨?none, ?gate, ?clock, ?both⟩ <;> intro hg hc
  case none =>
    rw [exec_smp, sample_of_no_edge hg hc, State.settle_ok]
    rfl
  case gate =>
    rw [exec_smp, sample_of_gate_edge hg hc, State.settle_ok]
    rfl
  case clock =>
    obtain ⟨t, ht, -⟩ := clockEdge_of_lt (s := s.setLevels g c) hi d
    refine ⟨t, ?_, ?_⟩
    · rw [exec_smp, sample_of_clock_edge hg hc, ht, State.settle_ok]
    · exact (exec_clk d (s.setLevels g c)).trans (by rw [ht, State.settle_ok])
  case both =>
    obtain ⟨t, ht, hdraws, horder⟩ :=
      bothEdges_draw (s := s.setLevels g c) hi (Config.simulOrder s.draws) d
    have hback : { t.draw with draws := s.draws } = t := by
      rw [← State.setLevels_draws (s := s) g c, ← hdraws]
      rfl
    refine ⟨t.draw, ?_, ?_⟩
    · rw [exec_smp, sample_of_both_edges hg hc, ht, State.settle_ok]
    · rw [hback]
      exact horder

/-! ### MAIN leaves the capture agent alone (R173, R211) -/

theorem State.settle_withMainOf {s : State} {r : Except Fault State}
    (h : ∀ t, r = .ok t → t.withMainOf s = s) : (s.settle r).withMainOf s = s := by
  obtain ⟨t, hr, ht⟩ | ⟨f, -, hf⟩ := s.settle_cases r
  · rw [ht, h t hr]
  · rw [hf]
    rfl

theorem State.advance_withMainOf (t s : State) : t.advance.withMainOf s = t.withMainOf s := by
  obtain ⟨-, h⟩ | ⟨-, -, h⟩ | ⟨-, -, h⟩ := t.advance_cases <;> rw [h] <;> rfl

theorem decodePhase_withMainOf {s t : State} (ht : decodePhase s = .ok t) :
    t.withMainOf s = s := by
  obtain ⟨-, h⟩ | ⟨r, -, -, h⟩ | ⟨info, -, -, h⟩ := decodePhase_cases s <;> rw [h] at ht <;>
    cases ht <;> rfl

theorem scanStep_withMainOf {s t : State} (ht : scanStep s = .ok t) : t.withMainOf s = s := by
  obtain ⟨w, -, h⟩ | ⟨f, -, h⟩ := scanStep_cases s <;> rw [h] at ht <;> cases ht
  exact (s.emitWord w).advance_withMainOf s

/-- MAIN writes the display, the sequencer, the fault mark and the output at most. -/
theorem mainStep_withMainOf (s : State) : (mainStep s).withMainOf s = s := by
  obtain ⟨-, h⟩ | ⟨-, -, h⟩ | ⟨-, -, h⟩ := mainStep_cases s <;> rw [h]
  · rfl
  · exact State.settle_withMainOf fun _ => decodePhase_withMainOf
  · exact State.settle_withMainOf fun _ => scanStep_withMainOf

/-! ### A captured frame stays until the next gate edge (R27 item 5, R114) -/

/-- `t` holds what was captured in `s`: every element of the capture state of R20. -/
structure SameFrame (s t : State) : Prop where
  gateActive : t.gateActive = s.gateActive
  bitIndex : t.bitIndex = s.bitIndex
  acc : t.acc = s.acc
  bits : t.bits = s.bits
  sign : t.sign = s.sign

theorem SameFrame.refl (s : State) : SameFrame s s :=
  ⟨rfl, rfl, rfl, rfl, rfl⟩

theorem SameFrame.trans {s t u : State} (h : SameFrame s t) (h' : SameFrame t u) :
    SameFrame s u where
  gateActive := h'.gateActive.trans h.gateActive
  bitIndex := h'.bitIndex.trans h.bitIndex
  acc := h'.acc.trans h.acc
  bits := h'.bits.trans h.bits
  sign := h'.sign.trans h.sign

theorem sameFrame_setLevels (s : State) (g c : Level) : SameFrame s (s.setLevels g c) :=
  ⟨rfl, rfl, rfl, rfl, rfl⟩

theorem sameFrame_mainStep (s : State) : SameFrame s (mainStep s) where
  gateActive := (congrArg State.gateActive (mainStep_withMainOf s) :)
  bitIndex := (congrArg State.bitIndex (mainStep_withMainOf s) :)
  acc := (congrArg State.acc (mainStep_withMainOf s) :)
  bits := (congrArg State.bits (mainStep_withMainOf s) :)
  sign := (congrArg State.sign (mainStep_withMainOf s) :)

theorem mainStep_gatePrev (s : State) : (mainStep s).gatePrev = s.gatePrev :=
  (congrArg State.gatePrev (mainStep_withMainOf s) :)

/-- With no window open a SAMPLE that does not see the gate rise only takes the new levels: its clock
edge, if it has one, is dropped. -/
theorem sample_of_closed {s : State} {g : Level} (hg : s.gateActive = false)
    (hrise : risingEdge s.gatePrev g = false) (c d : Level) :
    sample g c d s = .ok (s.setLevels g c) := by
  cases hc : risingEdge s.clkPrev c with
  | false => exact sample_of_no_edge hrise hc d
  | true => rw [sample_of_clock_edge hrise hc, clockEdge_of_closed (s := s.setLevels g c) hg]

/-- One operation that is no gate edge, with no window open, keeps the captured frame, and what it
leaves for the rest of the run is again no gate edge. -/
theorem exec_sameFrame_of_closed {i : Instr} {is : List Instr} {s : State}
    (hg : s.gateActive = false) (hseen : gateSeen s.gatePrev (i :: is) = false) :
    ∃ t, exec i s = .next t ∧ SameFrame s t ∧ gateSeen t.gatePrev is = false := by
  cases i with
  | gate => cases hseen
  | reset => cases hseen
  | clk d => exact ⟨s, clockWithoutAWindowDoesNothing s d hg, .refl s, hseen⟩
  | main =>
    refine ⟨mainStep s, exec_main s, sameFrame_mainStep s, ?_⟩
    rw [mainStep_gatePrev]
    exact hseen
  | smp g c d =>
    obtain ⟨hrise, hrest⟩ := Bool.or_eq_false_iff.mp hseen
    refine ⟨s.setLevels g c, ?_, sameFrame_setLevels s g c, hrest⟩
    rw [exec_smp, sample_of_closed hg hrise, State.settle_ok]

theorem execAll_sameFrame_of_closed {is : List Instr} {s : State} (hg : s.gateActive = false)
    (hseen : gateSeen s.gatePrev is = false) :
    ∃ t, execAll is s = .next t ∧ SameFrame s t := by
  induction is generalizing s with
  | nil => exact ⟨s, rfl, .refl s⟩
  | cons i is ih =>
    obtain ⟨t, hexec, hst, hrest⟩ := exec_sameFrame_of_closed hg hseen
    obtain ⟨u, hrun, htu⟩ := ih (hst.gateActive.trans hg) hrest
    exact ⟨u, (execAll_cons_of_next hexec is).trans hrun, hst.trans htu⟩

/-- Settles O17: the effective clock at index 23, and the runs that keep the frame it completes. -/
theorem frameCompletionPublishesAStableFrame :
    Obligations.FrameCompletionPublishesAStableFrame := by
  intro s d hg hi hacc
  obtain ⟨t, hexec, hbits, hsum, hsign, hwindow, hframe⟩ :=
    effectiveClockStoresWeighsAndCounts s d hg (by omega) hacc
  rw [if_pos hi] at hwindow
  obtain ⟨hclosed, hzero⟩ := hwindow
  refine ⟨t, hexec, hclosed, hzero, ?bits, ?acc, ?sign, hframe, ?stable⟩
  case bits => simpa only [hi] using hbits
  case acc => simpa [hi, weightOf] using hsum
  case sign => rw [hsign, hbits 20 (by decide), if_neg (by omega)]
  case stable =>
    intro is hseen
    obtain ⟨u, hrun, hu⟩ := execAll_sameFrame_of_closed hclosed hseen
    exact ⟨u, hrun, hu.gateActive.trans hclosed, hu.bitIndex.trans hzero, hu.acc, hu.bits, hu.sign⟩

end Sys2Proof.Machine
end

section
/-! SUPPORT. The function Decode digit by digit, and DECODE_PHASE as the arm of MAIN
(`spec/41_decode.md` rules R130 to R138). -/

namespace Sys2Proof.Machine

/-! ### The digits of a record (R87, R88, R133) -/

theorem digitGlyph_toNat {n : Nat} (hn : n ≤ 9) : (digitGlyph n).toNat = n := by
  rw [digitGlyph, BitVec.toNat_ofNat, Nat.mod_eq_of_lt (by omega)]

/-- `r` shows the sign `s` at place 0 and the decimal digits `n₁` to `n₅` at the places after it. -/
structure ShowsDigits (r : Record) (s : Level) (n₁ n₂ n₃ n₄ n₅ : Nat) : Prop where
  sign : r[0] = if s then 11 else 12
  digit₁ : r[1].toNat = n₁
  digit₂ : r[2].toNat = n₂
  digit₃ : r[3].toNat = n₃
  digit₄ : r[4].toNat = n₄
  digit₅ : r[5].toNat = n₅
  le_nine : ∀ k : Fin 6, k ≠ 0 → r[k].toNat ≤ 9

/-- Digit glyphs show their digits as long as each is a decimal digit. -/
theorem showsDigits_glyphs (s : Level) {n₁ n₂ n₃ n₄ n₅ : Nat} (h₁ : n₁ ≤ 9) (h₂ : n₂ ≤ 9)
    (h₃ : n₃ ≤ 9) (h₄ : n₄ ≤ 9) (h₅ : n₅ ≤ 9) :
    ShowsDigits #v[signGlyph s, digitGlyph n₁, digitGlyph n₂, digitGlyph n₃, digitGlyph n₄,
      digitGlyph n₅] s n₁ n₂ n₃ n₄ n₅ where
  sign := rfl
  digit₁ := digitGlyph_toNat h₁
  digit₂ := digitGlyph_toNat h₂
  digit₃ := digitGlyph_toNat h₃
  digit₄ := digitGlyph_toNat h₄
  digit₅ := digitGlyph_toNat h₅
  le_nine
    | 0, hk => absurd rfl hk
    | 1, _ => (digitGlyph_toNat h₁).trans_le h₁
    | 2, _ => (digitGlyph_toNat h₂).trans_le h₂
    | 3, _ => (digitGlyph_toNat h₃).trans_le h₃
    | 4, _ => (digitGlyph_toNat h₄).trans_le h₄
    | 5, _ => (digitGlyph_toNat h₅).trans_le h₅

/-! ### The mm branch (R134) -/

theorem decodeMeasurement_of_mm {x : Snapshot} (hu : x.u = false) :
    decodeMeasurement x = .ok (decodeMm x.m.toNat x.s) := by
  obtain ⟨-, h⟩ | ⟨hinch, -⟩ | ⟨hinch, -⟩ | ⟨hinch, -⟩ := decodeMeasurement_cases x
  · exact h
  all_goals exact absurd hinch (by simp [hu])

/-- Below 100000 every quotient of the successive division is a decimal digit. -/
theorem showsDigits_decodeMm {m : Nat} (hm : m < 100000) (s : Level) :
    ShowsDigits (decodeMm m s) s (m / 10000) (m % 10000 / 1000) (m % 10000 % 1000 / 100)
      (m % 10000 % 1000 % 100 / 10) (m % 10000 % 1000 % 100 % 10) :=
  showsDigits_glyphs s (by omega) (by omega) (by omega) (by omega) (by omega)

/-- Settles O22: the digits are the quotients of R134, whatever the correction flag. -/
theorem millimetreDigitsAreTheDecimalDigits : Obligations.MillimetreDigitsAreTheDecimalDigits := by
  intro x hu hm
  have hshows := showsDigits_decodeMm (show x.m.toNat < 100000 by omega) x.s
  refine ⟨decodeMm x.m.toNat x.s, decodeMeasurement_of_mm hu, hshows.sign, ?first, hshows.le_nine,
    ?spell, fun c => decodeMeasurement_of_mm (x := { x with c := c }) hu⟩
  case first =>
    rw [hshows.digit₁]
    omega
  case spell =>
    rw [hshows.digit₁, hshows.digit₂, hshows.digit₃, hshows.digit₄, hshows.digit₅]
    omega

/-! ### The inch branch where it has a value (R135, R136, R138) -/

/-- The correction flag reaches digits 4 and 5 and no other: digits 1 to 3 are those of `h`. -/
theorem decodeMeasurement_showsDigits_of_inch {x : Snapshot} (hu : x.u = true)
    (hc : x.c.toNat ≤ x.m.toNat / 2) (hmax : x.m.toNat / 2 ≤ 9999) :
    ∃ r, decodeMeasurement x = .ok r ∧
      ShowsDigits r x.s (x.m.toNat / 2 / 1000) (x.m.toNat / 2 % 1000 / 100)
        (x.m.toNat / 2 % 100 / 10) ((x.m.toNat / 2 - x.c.toNat) % 10) (5 * x.c.toNat) := by
  obtain ⟨hmm, -⟩ | ⟨-, hlarge, -⟩ | ⟨-, hbelow, -⟩ | ⟨-, -, -, h⟩ := decodeMeasurement_cases x
  · exact absurd hu (by simp [hmm])
  · omega
  · omega
  · have hflag := x.c.toNat_le
    exact ⟨_, h, showsDigits_glyphs x.s (by omega) (by omega) (by omega) (by omega) (by omega)⟩

/-- Settles O23: digits 1 to 3 with the ones place of `h` spell `h` itself, not `h - c`. -/
theorem inchDigitsKeepTheCarryAsymmetry : Obligations.InchDigitsKeepTheCarryAsymmetry := by
  rintro x h hu rfl hc hmax
  obtain ⟨r, hr, hshows⟩ := decodeMeasurement_showsDigits_of_inch hu hc hmax
  refine ⟨r, hr, hshows.sign, hshows.le_nine, ?spell, hshows.digit₄, hshows.digit₅⟩
  rw [hshows.digit₁, hshows.digit₂, hshows.digit₃]
  omega

/-! ### DECODE_PHASE (R130 to R132) -/

/-- An enabled MAIN in phase DECODE is a DECODE_PHASE (R171). -/
theorem exec_main_of_decode {s : State} (hf : s.fault = none) (hb : s.hookBlocked = false)
    (hp : s.phase = .decode) : exec .main s = .next (s.settle (decodePhase s)) := by
  have he : s.mainEnabled = true := s.mainEnabled_iff.2 ⟨hf, hb⟩
  obtain ⟨hoff, -⟩ | ⟨-, -, h⟩ | ⟨-, hscan, -⟩ := mainStep_cases s
  · exact absurd he (by simp [hoff])
  · rw [exec_main, h]
  · exact absurd hp (by simp [hscan])

theorem decodePhase_of_open {s : State} (hg : s.gateActive = true) :
    decodePhase s = .ok (s.setSequencer .scan 0 0) := by
  rw [decodePhase, if_pos hg]

theorem decodePhase_of_ok {s : State} {r : Record} (hg : s.gateActive = false)
    (hr : decodeMeasurement s.snapshot = .ok r) :
    decodePhase s = .ok ((s.setRecord r s.snapshot.u).setSequencer .scan 0 0) := by
  simp [decodePhase, hg, hr]

theorem decodePhase_of_error {s : State} {info : RangeInfo} (hg : s.gateActive = false)
    (hi : decodeMeasurement s.snapshot = .error info) :
    decodePhase s = .error (.decodeRange info s.snapshot) := by
  simp [decodePhase, hg, hi]

/-- Settles O25: the three ways a DECODE_PHASE can go; the snapshot is that of its own state. -/
theorem decodePhaseTakesOneAtomicSnapshot : Obligations.DecodePhaseTakesOneAtomicSnapshot := by
  intro s hf hb hp x
  have hx : s.snapshot = x := rfl
  rw [exec_main_of_decode hf hb hp, ← hx]
  refine ⟨fun hg => ?opened, fun r hg hr => ?decoded, fun info hg hi => ?faulted⟩
  case opened =>
    rw [decodePhase_of_open hg, State.settle_ok]
    rfl
  case decoded =>
    rw [decodePhase_of_ok hg hr, State.settle_ok]
    rfl
  case faulted => rw [decodePhase_of_error hg hi, State.settle_error, State.raise_of_none _ hf]

end Sys2Proof.Machine
end

section
/-! SUPPORT. SCAN_STEP as the arm of MAIN: the word of a position and the advance after it
(`spec/42_display.md` rules R150 to R155, `spec/30_encoding.md` rule R92). -/

namespace Sys2Proof.Machine

/-! ### The word of a position (R92, R153) -/

theorem assembleWord_beq (glyph point select : Word16) (p q : Position) :
    assembleWord glyph point select (p == q) =
      (if p = q then glyph ||| point else glyph) ||| select := by
  simp only [assembleWord, beq_iff_eq]

/-! ### The advance (R155) -/

/-- Inside a scan pass the advance, field by field. -/
theorem State.advance_of_scan {s : State} (hp : s.phase = .scan) :
    s.advance = { s with
      pos := if s.pos.toNat < 5 then s.pos + 1 else 0
      cyc := if s.pos.toNat < 5 then s.cyc else if s.cyc.toNat < 430 then s.cyc + 1 else 0
      phase := if s.pos.toNat < 5 then .scan
        else if s.cyc.toNat < 430 then .scan else .decode } := by
  obtain ⟨hpos, h⟩ | ⟨hpos, hcyc, h⟩ | ⟨hpos, hcyc, h⟩ := s.advance_cases
  case inl =>
    simp only [h, if_pos hpos, hp, State.setSequencer]
  case inr.inl =>
    simp only [h, if_neg hpos.not_gt, if_pos hcyc, hp, State.setSequencer]
  case inr.inr =>
    simp only [h, if_neg hpos.not_gt, if_neg hcyc.not_gt, State.setSequencer]

/-! ### SCAN_STEP (R150) -/

/-- An enabled MAIN in phase SCAN is a SCAN_STEP (R171). -/
theorem exec_main_of_scan {s : State} (hf : s.fault = none) (hb : s.hookBlocked = false)
    (hp : s.phase = .scan) : exec .main s = .next (s.settle (scanStep s)) := by
  have he : s.mainEnabled = true := s.mainEnabled_iff.2 ⟨hf, hb⟩
  obtain ⟨hoff, -⟩ | ⟨-, hdecode, -⟩ | ⟨-, -, h⟩ := mainStep_cases s
  · exact absurd he (by simp [hoff])
  · exact absurd hp (by simp [hdecode])
  · rw [exec_main, h]

theorem scanStep_of_word {s : State} {w : Word16} (hw : s.scanWord = .ok w) :
    scanStep s = .ok (s.emitWord w).advance := by
  simp [scanStep, hw]

/-- Settles O28: the word is that of R92 at the position R153 gives the point, and the advance is
that of R155 from the state that has emitted it. -/
theorem scanStepRendersOnePosition : Obligations.ScanStepRendersOnePosition := by
  intro s hpos hk hf hb hp unit q w
  have hq : s.dpPosition = q := rfl
  have hw : s.scanWord = .ok w := by
    rw [s.scanWord_of_lt hpos hk, assembleWord_beq, hq]
  have hemit : (s.emitWord w).phase = .scan := hp
  rw [exec_main_of_scan hf hb hp, scanStep_of_word hw, State.settle_ok,
    State.advance_of_scan hemit]
  rfl

end Sys2Proof.Machine
end

section
/-! SUPPORT. RESET and the fault mark (`spec/43_mainloop.md` rule R175, `spec/60_exceptions.md` rule
R202): the clocks a RESET leaves over, the frame after them, and the mark that no other operation
clears. -/

namespace Sys2Proof.Machine

/-! ### Left-over clocks (R115) -/

/-- With no window open the clocks of a transmission are dropped, however many. -/
theorem execAll_clocks_of_closed {s : State} (hg : s.gateActive = false) (left : List Level) :
    execAll (left.map .clk) s = .next s := by
  induction left with
  | nil => rfl
  | cons d left ih =>
    exact (execAll_cons_of_next (clockWithoutAWindowDoesNothing s d hg) _).trans ih

/-- The frame that begins after the dropped clocks is aligned and captured whole (R116). -/
theorem execAll_clocks_aligned_frame {s : State} (hg : s.gateActive = false) (hs : s.bitIndex = 0)
    (left : List Level) (b : FrameBits) :
    execAll (left.map .clk ++ .gate :: frameClocks b 24) s = .next (s.captured b) := by
  rw [execAll_append_of_next (execAll_clocks_of_closed hg left), execAll_aligned_frame hs b]

/-! ### What a capture event leaves unchanged (R208) -/

/-- CLOCK_EDGE, where it raises no fault, writes the capture state alone. -/
theorem clockEdge_withFrameOf {d : Level} {s t : State} (h : clockEdge d s = .ok t) :
    t.withFrameOf s = s := by
  obtain ⟨-, hd⟩ | ⟨_, -, hd⟩ | ⟨-, -, hd⟩ := clockEdge_cases d s <;>
    rw [hd] at h <;> cases h
  · rfl
  · exact completeIfFull_withFrameOf s _

theorem clockEdge_fault {d : Level} {s t : State} (h : clockEdge d s = .ok t) :
    t.fault = s.fault :=
  (congrArg State.fault (clockEdge_withFrameOf h) :)

theorem bothEdges_fault {order : SimulOrder} {d : Level} {s t : State}
    (h : bothEdges order d s = .ok t) : t.fault = s.fault := by
  cases order with
  | gateFirst => exact clockEdge_fault (s := gateEdge s) h
  | clockFirst =>
    rw [bothEdges] at h
    cases hd : clockEdge d s with
    | ok u =>
      rw [hd] at h
      cases h
      exact (clockEdge_fault hd :)
    | error f =>
      rw [hd] at h
      cases h

theorem sample_fault {g c d : Level} {s t : State} (h : sample g c d s = .ok t) :
    t.fault = s.fault := by
  obtain ⟨-, -, hs⟩ | ⟨-, -, hs⟩ | ⟨-, -, hs⟩ | ⟨-, -, hs⟩ := sample_cases g c d s <;>
    rw [hs] at h
  case inl => exact bothEdges_fault (s := (s.setLevels g c).draw) h
  case inr.inl => cases h; rfl
  case inr.inr.inl => exact clockEdge_fault (s := s.setLevels g c) h
  case inr.inr.inr => cases h; rfl

/-! ### A fault mark that stands (R202) -/

/-- An operation that does not write the mark itself keeps one that stands, even where it raises a
fault of its own (assumption 5). -/
theorem State.settle_fault_of_ne_none {s : State} {r : Except Fault State} (hf : s.fault ≠ none)
    (h : ∀ t, r = .ok t → t.fault = s.fault) : (s.settle r).fault = s.fault := by
  cases r with
  | ok t => exact h t rfl
  | error f =>
    obtain ⟨g, hg⟩ := Option.ne_none_iff_exists'.1 hf
    rw [State.settle_error, State.raise_of_some f hg]

/-- A fault stops the main agent (R171). -/
theorem mainStep_of_fault {s : State} (hf : s.fault ≠ none) : mainStep s = s := by
  obtain ⟨-, h⟩ | ⟨he, -, -⟩ | ⟨he, -, -⟩ := mainStep_cases s
  · exact h
  all_goals exact absurd (s.mainEnabled_iff.1 he).1 hf

/-- Every operation but RESET keeps a fault mark that stands. -/
theorem exec_fault_of_ne_reset {i : Instr} {s t : State} (hi : i ≠ .reset) (hf : s.fault ≠ none)
    (h : exec i s = .next t) : t.fault = s.fault := by
  cases i with
  | gate =>
    rw [exec_gate] at h
    cases h
    rfl
  | clk d =>
    rw [exec_clk] at h
    cases h
    exact State.settle_fault_of_ne_none hf fun _ => clockEdge_fault
  | smp g c d =>
    rw [exec_smp] at h
    cases h
    exact State.settle_fault_of_ne_none hf fun _ => sample_fault
  | main =>
    rw [exec_main, mainStep_of_fault hf] at h
    cases h
    rfl
  | reset => exact absurd rfl hi

/-- Settles O42: the values are those of power-on, whose closed window and index 0 drop the clocks
left over and align the next frame. -/
theorem resetRestoresEveryElement : Obligations.ResetRestoresEveryElement := by
  intro s
  refine ⟨s.powerOn, exec_reset s, s.powerOn_gateActive, s.powerOn_bitIndex, s.powerOn_acc,
    s.powerOn_bits, s.powerOn_sign, s.powerOn_gatePrev, s.powerOn_clkPrev, s.powerOn_record,
    s.powerOn_recUnit, s.powerOn_phase, s.powerOn_cyc, s.powerOn_pos, s.powerOn_fault,
    State.outTrace_of_out_eq_nil s.powerOn_out, ?dropped, ?captured, ?marked⟩
  case dropped => exact execAll_clocks_of_closed s.powerOn_gateActive
  case captured =>
    intro left b
    exact ⟨s.powerOn.captured b,
      execAll_clocks_aligned_frame s.powerOn_gateActive s.powerOn_bitIndex left b, rfl, rfl, rfl⟩
  case marked =>
    intro i u hi hf hu
    rw [exec_fault_of_ne_reset hi hf hu]
    exact hf

end Sys2Proof.Machine
end

section
/-! SUPPORT. Traces of bytes both ways round (`spec/30_encoding.md` rules R95, R97) and what a step
makes of the next entry of the input list (`spec/43_mainloop.md` rules R170, R176; R190). -/

namespace Sys2Proof.Machine

/-! ### One byte (R95) -/

theorem decodeByte_encode (i : Instr) : decodeByte (encode i) = some i := by
  cases i with
  | gate => exact Laws.EncodedByteDecodes.gate
  | clk d => exact Laws.EncodedByteDecodes.clk d
  | smp g c d => exact Laws.EncodedByteDecodes.smp g c d
  | main => exact Laws.EncodedByteDecodes.main
  | reset => exact Laws.EncodedByteDecodes.reset

/-- Of the 256 bytes each is reserved or the code of the operation it names. -/
theorem map_encode_decodeByte :
    ∀ b : Byte, decodeByte b = none ∨ (decodeByte b).map encode = some b := by
  decide

theorem encode_of_decodeByte {b : Byte} {i : Instr} (h : decodeByte b = some i) :
    encode i = b := by
  obtain hnone | hsome := map_encode_decodeByte b
  · rw [h] at hnone
    cases hnone
  · rw [h] at hsome
    exact Option.some.inj hsome

/-! ### Traces of bytes -/

theorem decodeFrom_cons_of_some {b : Byte} {i : Instr} (hb : decodeByte b = some i) (n : Nat)
    (rest : List Byte) :
    decodeFrom n (b :: rest) = (decodeFrom (n + 1) rest).map (i :: ·) := by
  rw [decodeFrom, hb]
  cases decodeFrom (n + 1) rest <;> rfl

theorem decodeFrom_encodeTrace (n : Nat) (is : List Instr) :
    decodeFrom n (encodeTrace is) = .ok is := by
  induction is generalizing n with
  | nil => rfl
  | cons i is ih =>
    rw [encodeTrace, List.map_cons, decodeFrom_cons_of_some (decodeByte_encode i),
      ← encodeTrace, ih, Except.map]

theorem encodeTrace_of_decodeFrom {bytes : List Byte} {n : Nat} {is : List Instr}
    (h : decodeFrom n bytes = .ok is) : encodeTrace is = bytes := by
  induction bytes generalizing n is with
  | nil =>
    cases h
    rfl
  | cons b rest ih =>
    cases hb : decodeByte b with
    | none =>
      rw [decodeFrom_cons_of_none hb] at h
      cases h
    | some i =>
      rw [decodeFrom_cons_of_some hb] at h
      cases hr : decodeFrom (n + 1) rest with
      | error e =>
        rw [hr] at h
        cases h
      | ok js =>
        rw [hr] at h
        cases h
        rw [encodeTrace, List.map_cons, encode_of_decodeByte hb, ← encodeTrace, ih hr]

/-- Settles O3, by induction on the operations and on the bytes. -/
theorem traceDecodeAndEncodeAgree : Obligations.TraceDecodeAndEncodeAgree :=
  ⟨fun is _ => decodeFrom_encodeTrace 0 is, fun _ _ h => encodeTrace_of_decodeFrom h⟩

/-! ### The step on the next entry of the input list -/

section
variable {s : State} {rest : List Stimulus}

theorem step_of_decoded {b : Byte} {i : Instr} (hp : s.pending = .op b :: rest)
    (hd : decodeByte b = some i) : step s = exec i (s.setPending rest) := by
  simp only [step, fetch, hp, hd]

theorem step_of_reserved {b : Byte} (hp : s.pending = .op b :: rest) (hd : decodeByte b = none) :
    step s = .refused (.reservedStimulus b 0) := by
  simp only [step, fetch, hp, hd]

theorem step_of_hold (hp : s.pending = .hookHold :: rest) :
    step s = .next (s.setPending rest).holdAtHook := by
  simp only [step, fetch, hp]

theorem step_of_release (hp : s.pending = .hookRelease :: rest) :
    step s = .next (s.setPending rest).releaseHook := by
  simp only [step, fetch, hp]

theorem step_of_nil (hp : s.pending = []) : step s = exec .main s := by
  simp only [step, fetch, hp]

end

theorem State.withFetchWord_encode (s : State) (i : Instr) :
    s.withFetchWord 8 (encode i).toNat = s.setPending (.op (encode i) :: s.pending) := by
  rw [State.withFetchWord, pushWord, Nat.mod_eq_of_lt (encode i).isLt, BitVec.ofNat_toNat,
    BitVec.setWidth_eq]

/-- Settles O6: the byte is decoded with the entry taken off; `withFetchWord` puts the byte of an
operation there, and that byte is read back. -/
theorem stepRunsTheDecodedOperation : Obligations.StepRunsTheDecodedOperation := by
  refine ⟨fun s b rest i hp hd => step_of_decoded hp hd, fun s i _ => ?_⟩
  rw [State.withFetchWord_encode]
  exact step_of_decoded (s := s.setPending (.op (encode i) :: s.pending)) rfl (decodeByte_encode i)

/-- Settles O7. -/
theorem stepWithoutStimulusRunsTheMainLoop : Obligations.StepWithoutStimulusRunsTheMainLoop :=
  fun _ => step_of_nil

/-- Settles O47. -/
theorem stepRefusesAReservedByteByName : Obligations.StepRefusesAReservedByteByName :=
  fun _ _ _ => step_of_reserved

/-- Settles O9: the two acts of the reporter write the hold alone, once their entry is taken off. -/
theorem reporterOnlyHoldsAndReleases : Obligations.ReporterOnlyHoldsAndReleases :=
  ⟨fun _ _ hp => step_of_hold hp, fun _ _ hp => step_of_release hp⟩

/-! ### The operations themselves -/

/-- Settles O10, operation by operation: a fault is a mark in the next state. -/
theorem everyOperationAnswersANextState : Obligations.EveryOperationAnswersANextState := by
  intro i s
  cases i with
  | gate => exact ⟨_, exec_gate s⟩
  | clk d => exact ⟨_, exec_clk d s⟩
  | smp g c d => exact ⟨_, exec_smp g c d s⟩
  | main => exact ⟨_, exec_main s⟩
  | reset => exact ⟨_, exec_reset s⟩

/-- Settles O43: what power-on takes from the state it is given. -/
theorem resetKeepsTheInputListAndTheParameters :
    Obligations.ResetKeepsTheInputListAndTheParameters :=
  fun s => ⟨s.powerOn, exec_reset s, s.powerOn_pending, s.powerOn_board, s.powerOn_hookBlocked,
    s.powerOn_draws⟩

/-! ### Settling an operation -/

/-- A change of the state that does not touch the fault mark can be made before an operation is
settled or after it. -/
theorem State.settle_map {f : State → State} {s : State}
    (hf : ∀ e, (f s).raise e = f (s.raise e)) (r : Except Fault State) :
    (f s).settle (r.map f) = f (s.settle r) := by
  cases r with
  | ok t => rfl
  | error e => exact hf e

/-- SCAN_STEP ends in the fault that left it without a word. -/
theorem scanStep_of_error {s : State} {f : Fault} (hw : s.scanWord = .error f) :
    scanStep s = .error f := by
  simp [scanStep, hw]

/-! ### No operation reads or writes the input list (R11) -/

section
variable (s : State) (l : List Stimulus)

theorem completeIfFull_setPending :
    completeIfFull (s.setPending l) = (completeIfFull s).setPending l := by
  rw [completeIfFull, completeIfFull, State.setPending_bitIndex,
    apply_ite (State.setPending · l)]
  rfl

theorem clockEdge_setPending (d : Level) :
    clockEdge d (s.setPending l) = (clockEdge d s).map (State.setPending · l) := by
  rw [clockEdge, clockEdge, State.setPending_gateActive, State.setPending_bitIndex]
  cases s.gateActive with
  | false => rfl
  | true =>
    cases readWeight s.bitIndex with
    | error f => rfl
    | ok w => exact congrArg Except.ok (completeIfFull_setPending (s.storeBit _ _ _) l)

theorem bothEdges_setPending (order : SimulOrder) (d : Level) :
    bothEdges order d (s.setPending l) = (bothEdges order d s).map (State.setPending · l) := by
  cases order with
  | gateFirst => exact clockEdge_setPending (gateEdge s) l d
  | clockFirst =>
    rw [bothEdges, bothEdges, clockEdge_setPending]
    cases clockEdge d s <;> rfl

theorem sample_setPending (g c d : Level) :
    sample g c d (s.setPending l) = (sample g c d s).map (State.setPending · l) := by
  obtain ⟨hg, hc, h⟩ | ⟨hg, hc, h⟩ | ⟨hg, hc, h⟩ | ⟨hg, hc, h⟩ := sample_cases g c d s <;>
    rw [h]
  case inl =>
    rw [sample_of_both_edges (s := s.setPending l) hg hc]
    exact bothEdges_setPending (s.setLevels g c).draw l _ d
  case inr.inl => exact sample_of_gate_edge (s := s.setPending l) hg hc d
  case inr.inr.inl =>
    rw [sample_of_clock_edge (s := s.setPending l) hg hc]
    exact clockEdge_setPending (s.setLevels g c) l d
  case inr.inr.inr => exact sample_of_no_edge (s := s.setPending l) hg hc d

theorem State.advance_setPending : (s.setPending l).advance = s.advance.setPending l := by
  rw [State.advance, State.advance, State.setPending_pos, State.setPending_cyc,
    apply_ite (State.setPending · l), apply_ite (State.setPending · l)]
  rfl

theorem mainArm_setPending :
    mainArm (s.setPending l) = (mainArm s).map (State.setPending · l) := by
  rw [mainArm, mainArm, State.setPending_phase]
  cases s.phase with
  | decode =>
    obtain ⟨hg, h⟩ | ⟨r, hg, hr, h⟩ | ⟨info, hg, hi, h⟩ := decodePhase_cases s <;>
      simp only [h]
    · exact decodePhase_of_open (s := s.setPending l) hg
    · exact decodePhase_of_ok (s := s.setPending l) hg hr
    · exact decodePhase_of_error (s := s.setPending l) hg hi
  | scan =>
    obtain ⟨w, hw, h⟩ | ⟨f, hw, h⟩ := scanStep_cases s <;> simp only [h]
    · exact (scanStep_of_word (s := s.setPending l) hw).trans
        (congrArg Except.ok ((s.emitWord w).advance_setPending l))
    · exact scanStep_of_error (s := s.setPending l) hw

theorem State.raise_setPending (f : Fault) :
    (s.setPending l).raise f = (s.raise f).setPending l := by
  rw [State.raise_eq, State.raise_eq]
  rfl

theorem State.settle_setPending (r : Except Fault State) :
    (s.setPending l).settle (r.map (State.setPending · l)) = (s.settle r).setPending l :=
  State.settle_map (f := (State.setPending · l)) (s.raise_setPending l) r

theorem mainStep_setPending : mainStep (s.setPending l) = (mainStep s).setPending l := by
  have he : (s.setPending l).mainEnabled = s.mainEnabled := rfl
  rw [mainStep, mainStep, he, mainArm_setPending, State.settle_setPending,
    apply_ite (State.setPending · l)]

end

/-- What an operation does is the same whatever stands on the input list, which it leaves alone. -/
theorem exec_setPending {i : Instr} {s t : State} (l : List Stimulus) (h : exec i s = .next t) :
    exec i (s.setPending l) = .next (t.setPending l) := by
  cases i with
  | gate =>
    cases h
    rfl
  | clk d =>
    cases h
    rw [exec_clk, clockEdge_setPending, State.settle_setPending]
  | smp g c d =>
    cases h
    rw [exec_smp, sample_setPending, State.settle_setPending]
  | main =>
    cases h
    rw [exec_main, mainStep_setPending]
  | reset =>
    cases h
    rfl

/-! ### A loaded trace (R11, R96) -/

theorem State.loadTrace_of_ok (s : State) {bytes : List Byte} {is : List Instr}
    (h : decodeTrace bytes = .ok is) :
    s.loadTrace bytes = .next (s.setPending (s.pending ++ bytes.map Stimulus.op)) := by
  rw [State.loadTrace, h]

theorem run_succ_of_next {M : Host.Core} {s t : M.State} (h : M.step s = .next t) (n : Nat) :
    M.run (n + 1) s = M.run n t := by
  rw [Host.Core.run, h]

/-- As many steps as there are operations on the input list are the operations themselves. -/
theorem run_encodeTrace (is : List Instr) (s : State) :
    Host.Core.run core is.length (s.setPending ((encodeTrace is).map Stimulus.op))
      = execAll is (s.setPending []) := by
  induction is generalizing s with
  | nil => rfl
  | cons i is ih =>
    obtain ⟨t, ht⟩ := everyOperationAnswersANextState i s
    have hstep : step (s.setPending ((encodeTrace (i :: is)).map Stimulus.op))
        = .next (t.setPending ((encodeTrace is).map Stimulus.op)) := by
      rw [step_of_decoded (rest := (encodeTrace is).map Stimulus.op) rfl (decodeByte_encode i)]
      exact exec_setPending (s := s) _ ht
    have hrest := execAll_cons_of_next (exec_setPending [] ht) is
    exact (run_succ_of_next (M := core) hstep is.length).trans ((ih t).trans hrest.symm)

/-- Settles O8: the trace loaded is all that stands on the input list, and it decodes to the
operations one entry at a time. -/
theorem loadedTraceRunsItsOperationsInOrder : Obligations.LoadedTraceRunsItsOperationsInOrder := by
  intro s is hp _
  have hs : s.setPending [] = s := by rw [← hp]; rfl
  refine ⟨_, s.loadTrace_of_ok (decodeFrom_encodeTrace 0 is), ?_⟩
  rw [hp, List.nil_append, run_encodeTrace, hs]

end Sys2Proof.Machine
end

section
/-! SUPPORT. What each operation leaves alone (`spec/60_exceptions.md` rules R201, R202, R208, R211):
the frame of a capture operation and of MAIN, and the fault that changes only the mark. -/

namespace Sys2Proof.Machine

/-! ### Capture operations (R208) -/

/-- What differs from `u` in the capture state alone has the same frame as `u`. -/
theorem State.withCaptureOf_of_withFrameOf {t u : State} (h : t.withFrameOf u = u) (s : State) :
    t.withCaptureOf s = u.withCaptureOf s :=
  (congrArg (State.withCaptureOf · s) h :)

theorem bothEdges_withFrameOf {order : SimulOrder} {d : Level} {s t : State}
    (h : bothEdges order d s = .ok t) : t.withFrameOf s = s := by
  cases order with
  | gateFirst => exact (congrArg (State.withFrameOf · s) (clockEdge_withFrameOf (s := gateEdge s) h) :)
  | clockFirst =>
    rw [bothEdges] at h
    cases hd : clockEdge d s with
    | ok u =>
      rw [hd] at h
      cases h
      exact (clockEdge_withFrameOf hd :)
    | error f =>
      rw [hd] at h
      cases h

/-- SAMPLE, where it raises no fault, writes the capture state, the levels and the draw counter. -/
theorem sample_withCaptureOf {g c d : Level} {s t : State} (h : sample g c d s = .ok t) :
    t.withCaptureOf s = s := by
  obtain ⟨-, -, hs⟩ | ⟨-, -, hs⟩ | ⟨-, -, hs⟩ | ⟨-, -, hs⟩ := sample_cases g c d s <;> rw [hs] at h
  case inl => exact State.withCaptureOf_of_withFrameOf (bothEdges_withFrameOf h) s
  case inr.inl => cases h; rfl
  case inr.inr.inl => exact State.withCaptureOf_of_withFrameOf (clockEdge_withFrameOf h) s
  case inr.inr.inr => cases h; rfl

theorem clockEdge_bitIndex_of_error {d : Level} {s : State} {f : Fault}
    (h : clockEdge d s = .error f) : 24 ≤ s.bitIndex.toNat := by
  obtain ⟨-, hd⟩ | ⟨_, -, hd⟩ | ⟨-, hge, -⟩ := clockEdge_cases d s
  · rw [hd] at h
    cases h
  · rw [hd] at h
    cases h
  · exact hge

theorem bothEdges_bitIndex_of_error {order : SimulOrder} {d : Level} {s : State} {f : Fault}
    (h : bothEdges order d s = .error f) : 24 ≤ s.bitIndex.toNat := by
  cases order with
  | gateFirst => exact clockEdge_bitIndex_of_error (s := gateEdge s) h
  | clockFirst =>
    cases hd : clockEdge d s with
    | ok u => simp [bothEdges, hd] at h
    | error f => exact clockEdge_bitIndex_of_error hd

theorem sample_bitIndex_of_error {g c d : Level} {s : State} {f : Fault}
    (h : sample g c d s = .error f) : 24 ≤ s.bitIndex.toNat := by
  obtain ⟨-, -, hs⟩ | ⟨-, -, hs⟩ | ⟨-, -, hs⟩ | ⟨-, -, hs⟩ := sample_cases g c d s <;> rw [hs] at h
  case inl => exact (bothEdges_bitIndex_of_error h :)
  case inr.inl => cases h
  case inr.inr.inl => exact (clockEdge_bitIndex_of_error h :)
  case inr.inr.inr => cases h

/-- The two ways to settle a capture event: it writes its own elements, or, with the index outside
the frame, records its fault. -/
theorem State.settle_capture_cases {s : State} {r : Except Fault State}
    (hok : ∀ t, r = .ok t → t.withCaptureOf s = s)
    (herr : ∀ f, r = .error f → 24 ≤ s.bitIndex.toNat) :
    (s.settle r).withCaptureOf s = s
      ∨ (24 ≤ s.bitIndex.toNat ∧ ∃ f, s.settle r = s.raise f) := by
  cases r with
  | ok t => exact .inl (hok t rfl)
  | error f => exact .inr ⟨herr f rfl, f, rfl⟩

/-- All a capture operation can do. -/
theorem exec_capture_cases {i : Instr} (hi : isCapture i = true) (s : State) :
    ∃ t, exec i s = .next t
      ∧ (t.withCaptureOf s = s ∨ (24 ≤ s.bitIndex.toNat ∧ ∃ f, t = s.raise f)) := by
  cases i with
  | gate => exact ⟨_, exec_gate s, .inl rfl⟩
  | clk d =>
    exact ⟨_, exec_clk d s, State.settle_capture_cases
      (fun _ h => State.withCaptureOf_of_withFrameOf (clockEdge_withFrameOf h) s)
      fun _ => clockEdge_bitIndex_of_error⟩
  | smp g c d =>
    exact ⟨_, exec_smp g c d s, State.settle_capture_cases (fun _ => sample_withCaptureOf)
      fun _ => sample_bitIndex_of_error⟩
  | main => cases hi
  | reset => cases hi

/-- Settles O15. -/
theorem captureOperationsLeaveTheMainAgentAlone :
    Obligations.CaptureOperationsLeaveTheMainAgentAlone := by
  intro s i hi hlt
  obtain ⟨t, ht, hframe | ⟨hge, -⟩⟩ := exec_capture_cases hi s
  · exact ⟨t, ht, hframe⟩
  · omega

/-- Settles O16: R27 item 5 element by element. -/
theorem capturedFrameIsFrozenUntilTheNextGate :
    Obligations.CapturedFrameIsFrozenUntilTheNextGate := by
  intro is s hg hseen
  obtain ⟨t, hrun, ht⟩ := execAll_sameFrame_of_closed hg hseen
  exact ⟨t, hrun, ht.gateActive.trans hg, ht.bitIndex, ht.acc, ht.bits, ht.sign⟩

/-- Settles O48: with the index inside the frame the clock edge of the sample answers a state, in
either place of the order. -/
theorem simultaneousEdgesTakeAFreshOrder : Obligations.SimultaneousEdgesTakeAFreshOrder := by
  intro s g c d hi hg hc
  rw [exec_smp, sample_of_both_edges ((risingEdge_eq_true_iff _ _).2 hg)
    ((risingEdge_eq_true_iff _ _).2 hc)]
  cases Config.simulOrder s.draws with
  | gateFirst =>
    obtain ⟨t, ht, -⟩ := clockEdge_of_lt (s := gateEdge (s.setLevels g c).draw) hi d
    refine ⟨t, ?_, execAll_pair (exec_gate _) ?_⟩
    · rw [bothEdges, ht, State.settle_ok]
    · exact (exec_clk d (gateEdge (s.setLevels g c).draw)).trans (by rw [ht, State.settle_ok])
  | clockFirst =>
    obtain ⟨t, ht, -⟩ := clockEdge_of_lt (s := (s.setLevels g c).draw) hi d
    refine ⟨gateEdge t, ?_, execAll_pair (t := t) ?_ (exec_gate t)⟩
    · rw [bothEdges, ht]
      rfl
    · exact (exec_clk d (s.setLevels g c).draw).trans (by rw [ht, State.settle_ok])

/-! ### MAIN (R171, R211) -/

/-- Settles O39. -/
theorem mainAgentLeavesCaptureStateAlone : Obligations.MainAgentLeavesCaptureStateAlone :=
  fun s => ⟨mainStep s, exec_main s, mainStep_withMainOf s⟩

/-- The reporter's hold stops the main agent (R190). -/
theorem mainStep_of_held {s : State} (hb : s.hookBlocked = true) : mainStep s = s := by
  obtain ⟨-, h⟩ | ⟨he, -, -⟩ | ⟨he, -, -⟩ := mainStep_cases s
  · exact h
  all_goals exact absurd (s.mainEnabled_iff.1 he).2 (by simp [hb])

/-- Settles O36, for each of the two reasons. -/
theorem stoppedMainAgentTakesNoStep : Obligations.StoppedMainAgentTakesNoStep := by
  rintro s (hf | hb)
  · rw [exec_main, mainStep_of_fault hf]
  · rw [exec_main, mainStep_of_held hb]

theorem decodePhase_fault {s t : State} (h : decodePhase s = .ok t) : t.fault = s.fault := by
  obtain ⟨-, hd⟩ | ⟨r, -, -, hd⟩ | ⟨info, -, -, hd⟩ := decodePhase_cases s <;> rw [hd] at h <;>
    cases h <;> rfl

theorem State.advance_withScanOf (t s : State) : t.advance.withScanOf s = t.withScanOf s := by
  obtain ⟨-, h⟩ | ⟨-, -, h⟩ | ⟨-, -, h⟩ := t.advance_cases <;> rw [h] <;> rfl

/-- SCAN_STEP, where it raises no fault, writes the output and the sequencer alone (R150). -/
theorem scanStep_withScanOf {s t : State} (h : scanStep s = .ok t) : t.withScanOf s = s := by
  obtain ⟨w, -, hs⟩ | ⟨f, -, hs⟩ := scanStep_cases s <;> rw [hs] at h <;> cases h
  exact (s.emitWord w).advance_withScanOf s

theorem scanStep_fault {s t : State} (h : scanStep s = .ok t) : t.fault = s.fault :=
  (congrArg State.fault (scanStep_withScanOf h) :)

/-! ### An operation that raises a fault (R202) -/

/-- The mark can only come from the fault the operation raised, and that changes nothing else. -/
theorem State.settle_of_raised {s : State} {r : Except Fault State} {f : Fault}
    (hs : s.fault = none) (hok : ∀ t, r = .ok t → t.fault = s.fault)
    (hf : (s.settle r).fault = some f) : s.settle r = { s with fault := some f } := by
  cases r with
  | ok t =>
    rw [State.settle_ok, hok t rfl, hs] at hf
    cases hf
  | error e =>
    rw [State.settle_error, State.raise_of_none e hs] at hf ⊢
    cases hf
    rfl

theorem mainStep_of_raised {s : State} {f : Fault} (hs : s.fault = none)
    (hf : (mainStep s).fault = some f) : mainStep s = { s with fault := some f } := by
  obtain ⟨-, h⟩ | ⟨-, -, h⟩ | ⟨-, -, h⟩ := mainStep_cases s <;> rw [h] at hf ⊢
  · rw [hs] at hf
    cases hf
  · exact State.settle_of_raised hs (fun _ => decodePhase_fault) hf
  · exact State.settle_of_raised hs (fun _ => scanStep_fault) hf

theorem exec_of_raised {i : Instr} {s t : State} {f : Fault} (hs : s.fault = none)
    (h : exec i s = .next t) (hf : t.fault = some f) : t = { s with fault := some f } := by
  cases i with
  | gate =>
    cases h
    exact absurd hf (by simp [gateEdge, hs])
  | clk d =>
    cases h
    exact State.settle_of_raised hs (fun _ => clockEdge_fault) hf
  | smp g c d =>
    cases h
    exact State.settle_of_raised hs (fun _ => sample_fault) hf
  | main =>
    cases h
    exact mainStep_of_raised hs hf
  | reset =>
    cases h
    cases hf

/-- Settles O41: what raises a mark, what keeps one, and the power-on that clears it. -/
theorem faultChangesOnlyTheMarkAndStaysUntilReset :
    Obligations.FaultChangesOnlyTheMarkAndStaysUntilReset := by
  refine ⟨fun i s t f => exec_of_raised, fun i s f hf => ?_⟩
  obtain ⟨t, ht⟩ := everyOperationAnswersANextState i s
  refine ⟨t, ht, fun hi => ?kept, fun hi => ?cleared⟩
  case kept => rw [exec_fault_of_ne_reset hi (by simp [hf]) ht, hf]
  case cleared =>
    subst hi
    cases ht
    exact s.powerOn_fault

end Sys2Proof.Machine
end

section
/-! SUPPORT. Whole frames (`spec/40_capture.md` rules R116 to R118, `spec/30_encoding.md` rule R83): the
sums they leave in the accumulator, aligned or not, and the clocks beyond them. -/

namespace Sys2Proof.Machine

/-! ### Weighted sums (R81, R83) -/

/-- A frame stored from position `k` on counts at most the weights of the positions it reaches. -/
theorem weighted_add_weightSum_le (b : FrameBits) (k n : Nat) :
    weighted b k n + weightSum k ≤ weightSum (k + n) := by
  induction n with
  | zero => exact (Nat.zero_add _).le
  | succ n ih =>
    have hbit : weightOf (k + n) * (b.getLsbD n).toNat ≤ weightOf (k + n) :=
      (Nat.mul_le_mul_left _ (Bool.toNat_le _)).trans (Nat.mul_one _).le
    rw [weighted, ← Nat.add_assoc, weightSum]
    omega

theorem weightSum_mono {i j : Nat} (h : i ≤ j) : weightSum i ≤ weightSum j := by
  induction h with
  | refl => exact le_rfl
  | step _ ih => exact ih.trans (Nat.le_add_right _ _)

theorem weightSum_le {i : Nat} (hi : i ≤ 24) : weightSum i ≤ 65537 :=
  (weightSum_mono hi).trans (by decide)

theorem weighted_le (b : FrameBits) {k n : Nat} (hn : k + n ≤ 24) : weighted b k n ≤ 65537 := by
  have hsum := weighted_add_weightSum_le b k n
  have hmax := weightSum_le hn
  omega

/-- The accumulator has room for the sum of a frame. -/
theorem toNat_ofNat_weighted (b : FrameBits) {k n : Nat} (hn : k + n ≤ 24) :
    (BitVec.ofNat 17 (weighted b k n)).toNat = weighted b k n := by
  have hmax := weighted_le b hn
  rw [BitVec.toNat_ofNat, Nat.mod_eq_of_lt (by omega)]

/-- The positions below 16 carry their powers of two, so that their bits spell a number. -/
theorem weighted_eq_mod (b : FrameBits) {n : Nat} (hn : n ≤ 16) :
    weighted b 0 n = b.toNat % 2 ^ n := by
  induction n with
  | zero => rw [weighted, pow_zero, Nat.mod_one]
  | succ n ih =>
    rw [weighted, ih (by omega), Nat.zero_add, weightOf, if_pos (by omega), Nat.mod_pow_succ,
      ← Nat.toNat_testBit, BitVec.testBit_toNat]

/-- The sum of an aligned frame is its 16-bit field plus the sign bit plus the unit bit (R83). -/
theorem weighted_eq_rawField (b : FrameBits) :
    weighted b 0 24 = rawField b + (b.getLsbD 20).toNat + (b.getLsbD 23).toNat := by
  have hraw : rawField b = weighted b 0 16 := by
    rw [weighted_eq_mod b le_rfl, rawField, BitVec.extractLsb'_toNat, Nat.shiftRight_zero]
  rw [hraw]
  simp [weighted, weightOf]

/-! ### Aligned frames (R116) -/

/-- Settles O18: the clocks one by one, and for the last one the closing of the window. -/
theorem alignedFrameIsCapturedWhole : Obligations.AlignedFrameIsCapturedWhole := by
  intro s b k hs hsign hk hk24
  have hidx : s.bitIndex.toNat = 0 := by rw [hs]; rfl
  obtain ⟨t, hrun, ht⟩ := execAll_frameClocks (s := s) (n := k) (by omega) b (by omega)
  have hbits : ∀ j, j < 24 →
      t.bits.getLsbD j = if j < k then b.getLsbD j else s.bits.getLsbD j := by
    intro j hj
    rw [ht.bits j hj, hidx, Nat.sub_zero]
    exact if_congr (by omega) rfl rfl
  have hacc : t.acc.toNat = weighted b 0 k := by
    rw [ht.acc, hidx, toNat_ofNat_weighted b (by omega)]
  refine ⟨completeIfFull t, hrun, ?bits, ?acc, ?sign, ?inside, ?full, ?frame⟩
  case bits =>
    rw [completeIfFull_bits]
    exact hbits
  case acc => rw [completeIfFull_acc, hacc]
  case sign =>
    rw [completeIfFull_sign, ht.sign, if_neg (by omega), hsign]
    exact hbits 20 (by decide)
  case inside =>
    intro hlt
    rw [ht.completeIfFull_eq (by omega)]
    exact ⟨ht.gateActive, by rw [ht.bitIndex]; omega⟩
  case full =>
    rintro rfl
    rw [ht.completeIfFull_last (by omega), ht.closeWindow_eq_captured hs]
    exact ⟨rfl, rfl, rfl, by rw [State.captured, toNat_ofNat_weighted b le_rfl,
      weighted_eq_rawField]⟩
  case frame => rw [completeIfFull_withFrameOf, ht.frame]

/-- Settles O20: the window is closed after the 24th clock. -/
theorem extraClocksAreDropped : Obligations.ExtraClocksAreDropped := by
  intro s b extra hs
  have hframe := execAll_aligned_frame hs b
  refine ⟨s.captured b, hframe, ?_⟩
  rw [execAll_append_of_next hframe]
  exact execAll_clocks_of_closed (s := s.captured b) rfl extra

/-! ### Misaligned frames (R117) -/

/-- The clocks of a frame, cut after the first `n`. -/
theorem frameClocks_add (b : FrameBits) (n m : Nat) :
    frameClocks b (n + m)
      = frameClocks b n ++ ((List.range m).map fun i => b.getLsbD (n + i)).map .clk := by
  simp only [frameClocks, List.range_add, List.map_append, List.map_map]
  rfl

/-- Settles O19: the clock that reaches index 23 closes the window, and the `k` clocks left of the
transmission are dropped. -/
theorem misalignedFrameCompletesEarlyAndHeals :
    Obligations.MisalignedFrameCompletesEarlyAndHeals := by
  intro s b k hidx hk hk24
  obtain ⟨t, hrun, ht⟩ := execAll_frameClocks (s := s) (n := 24 - k) (by omega) b (by omega)
  rw [ht.completeIfFull_last (by omega)] at hrun
  refine ⟨t.closeWindow, hrun, ?dropped, rfl, rfl, ?bits, ?acc⟩
  case dropped =>
    have hcut := frameClocks_add b (24 - k) k
    rw [Nat.sub_add_cancel hk24.le] at hcut
    rw [hcut, ← List.cons_append, execAll_append_of_next hrun]
    exact execAll_clocks_of_closed t.closeWindow_gateActive _
  case bits =>
    intro j hj
    rw [State.closeWindow_bits, ht.bits j hj, hidx]
    by_cases hlow : j < k
    · rw [if_pos hlow, if_neg (by omega)]
    · rw [if_neg hlow, if_pos (by omega)]
  case acc => rw [State.closeWindow_acc, ht.acc, hidx, toNat_ofNat_weighted b (by omega)]

end Sys2Proof.Machine
end

section
/-! SUPPORT. From the frame to the record (`spec/41_decode.md` rules R137, R139, `spec/30_encoding.md`
rule R99), the faults on the way (`spec/60_exceptions.md` rule R201) and the sequencer's table
(`spec/43_mainloop.md` rule R172). -/

namespace Sys2Proof.Machine

/-! ### Where Decode has no value (R137) -/

theorem lt_toNat_iff (n : Nat) (c : Bool) : n < c.toNat ↔ c = true ∧ n = 0 := by
  cases c <;> simp

/-- Settles O24: each case of Decode decides all three equivalences. -/
theorem decodeFaultsExactlyOutsideItsRange : Obligations.DecodeFaultsExactlyOutsideItsRange := by
  intro x
  obtain ⟨hu, h⟩ | ⟨hu, hlarge, h⟩ | ⟨hu, hbelow, h⟩ | ⟨hu, hmax, hc, h⟩ :=
    decodeMeasurement_cases x
  case inl => simp [h, hu]
  case inr.inl =>
    have hzero : x.m.toNat / 2 ≠ 0 := by omega
    have hmax : ¬x.m.toNat / 2 ≤ 9999 := by omega
    simp only [h, hu, hlarge, hzero, hmax, and_self, and_false, or_self, Except.error.injEq,
      reduceCtorEq, exists_false]
  case inr.inr.inl =>
    have hflag := (lt_toNat_iff _ _).1 hbelow
    simp [h, hu, hflag]
  case inr.inr.inr =>
    have hflag : ¬(x.c = true ∧ x.m.toNat / 2 = 0) := by
      rw [← lt_toNat_iff]
      omega
    simp only [h, hu, reduceCtorEq, false_iff, true_iff, true_and, Except.ok.injEq, exists_eq',
      false_or]
    exact ⟨by omega, hflag, hc, by omega⟩

/-! ### The frame of a MEAS (R99) -/

/-- The 24 bits of a MEAS as the array they leave. -/
def measFrame (raw : Nat) (s u : Level) : FrameBits :=
  BitVec.ofFnLE fun i : Fin 24 => measBit raw s u i

theorem measFrame_getLsbD (raw : Nat) (s u : Level) {i : Nat} (hi : i < 24) :
    (measFrame raw s u).getLsbD i = measBit raw s u i := by
  rw [measFrame, BitVec.getLsbD_ofFnLE, dif_pos hi]

theorem expand_meas (raw : Nat) (s u : Level) :
    expand (.meas raw s u) = .gate :: frameClocks (measFrame raw s u) 24 := by
  rw [expand, frameOps, measBits, List.map_map, frameClocks]
  refine congrArg _ (List.map_congr_left fun i hi => ?_)
  rw [measFrame_getLsbD raw s u (List.mem_range.1 hi), Function.comp_apply]

theorem rawField_measFrame {raw : Nat} (h : raw < 65536) (s u : Level) :
    rawField (measFrame raw s u) = raw := by
  have hfield : (measFrame raw s u).extractLsb' 0 16 = BitVec.ofNat 16 raw :=
    BitVec.eq_of_getLsbD_eq fun i hi => by
      rw [BitVec.getLsbD_extractLsb', Nat.zero_add, measFrame_getLsbD raw s u (by omega), measBit,
        if_pos hi, BitVec.getLsbD_ofNat]
  rw [rawField, hfield, BitVec.toNat_ofNat, Nat.mod_eq_of_lt h]

/-- The snapshot of an aligned MEAS (R131): the sum of R83, and the three flags of the frame. -/
structure MeasSnapshot (raw : Nat) (s u : Level) (x : Snapshot) : Prop where
  m : x.m.toNat = raw + s.toNat + u.toNat
  u : x.u = u
  s : x.s = s
  c : x.c = raw.testBit 0

theorem measSnapshot_captured {raw : Nat} (h : raw < 65536) (s u : Level) (t : State) :
    MeasSnapshot raw s u (t.captured (measFrame raw s u)).snapshot where
  m := by
    have hsum : (t.captured (measFrame raw s u)).snapshot.m
        = BitVec.ofNat 17 (weighted (measFrame raw s u) 0 24) := rfl
    rw [hsum, toNat_ofNat_weighted _ le_rfl, weighted_eq_rawField, rawField_measFrame h,
      measFrame_getLsbD raw s u (by decide), measFrame_getLsbD raw s u (by decide)]
    rfl
  u := measFrame_getLsbD raw s u (i := 23) (by decide)
  s := measFrame_getLsbD raw s u (i := 20) (by decide)
  c := measFrame_getLsbD raw s u (i := 0) (by decide)

/-- An aligned MEAS, then an enabled DECODE_PHASE in the state it leaves. -/
theorem execAll_meas_main {s : State} (hs : s.bitIndex = 0) (hf : s.fault = none)
    (hb : s.hookBlocked = false) (hp : s.phase = .decode) (raw : Nat) (sgn u : Level) :
    execAll (expand (.meas raw sgn u) ++ [.main]) s
      = .next ((s.captured (measFrame raw sgn u)).settle
          (decodePhase (s.captured (measFrame raw sgn u)))) := by
  rw [expand_meas, execAll_append_of_next (execAll_aligned_frame hs _)]
  exact execAll_cons_of_next
    (exec_main_of_decode (s := s.captured (measFrame raw sgn u)) hf hb hp) []

/-- Settles O26: the record of R134 for the magnitude `raw` plus the sign bit's weight. -/
theorem millimetreFrameReachesTheRecord : Obligations.MillimetreFrameReachesTheRecord := by
  intro s raw sgn hraw hs hf hb hp
  have hx := measSnapshot_captured hraw sgn false s
  have hm : (s.captured (measFrame raw sgn false)).snapshot.m.toNat = raw + sgn.toNat := hx.m
  have hsgn := sgn.toNat_le
  have hshows := showsDigits_decodeMm (m := raw + sgn.toNat) (by omega) sgn
  have hr := decodeMeasurement_of_mm hx.u
  rw [hm, hx.s] at hr
  refine ⟨_, execAll_meas_main hs hf hb hp raw sgn false, ?_⟩
  rw [decodePhase_of_ok rfl hr, State.settle_ok]
  refine ⟨rfl, hf, hx.u, hshows.sign, hshows.le_nine, ?_⟩
  simp only [State.setSequencer_record, State.setRecord_record, hshows.digit₁, hshows.digit₂,
    hshows.digit₃, hshows.digit₄, hshows.digit₅]
  omega

theorem decodeMeasurement_of_hTooLarge {x : Snapshot} (hu : x.u = true)
    (hlarge : 10000 ≤ x.m.toNat / 2) : decodeMeasurement x = .error .hTooLarge :=
  (decodeFaultsExactlyOutsideItsRange x).1.2 ⟨hu, hlarge⟩

theorem decodeMeasurement_of_hBelowC {x : Snapshot} (hu : x.u = true) (hc : x.c = true)
    (hzero : x.m.toNat / 2 = 0) : decodeMeasurement x = .error .hBelowC :=
  (decodeFaultsExactlyOutsideItsRange x).2.1.2 ⟨hu, hc, hzero⟩

/-- Settles O27: half of `raw + sgn + 1` is at least the correction flag, which is the parity of
`raw`, so that the range of R137 is left only at its upper end. -/
theorem inchFrameReachesTheRecordOrFaults : Obligations.InchFrameReachesTheRecordOrFaults := by
  intro s raw sgn hraw hs hf hb hp
  have hx := measSnapshot_captured hraw sgn true s
  have hm : (s.captured (measFrame raw sgn true)).snapshot.m.toNat = raw + sgn.toNat + 1 := hx.m
  have hc : (s.captured (measFrame raw sgn true)).snapshot.c.toNat = raw % 2 := by
    rw [hx.c, Nat.toNat_testBit, pow_zero, Nat.div_one]
  have hsgn := sgn.toNat_le
  refine ⟨_, execAll_meas_main hs hf hb hp raw sgn true, ?_⟩
  split
  case isTrue hlt =>
    obtain ⟨r, hr, hshows⟩ := decodeMeasurement_showsDigits_of_inch hx.u (by omega) (by omega)
    rw [hm, hc, hx.s] at hshows
    rw [decodePhase_of_ok rfl hr, State.settle_ok]
    refine ⟨rfl, hf, hx.u, hshows.sign, ?spell, hshows.le_nine, fun hodd => ⟨?odd₄, ?odd₅⟩,
      fun heven => ⟨?even₄, ?even₅⟩⟩
    case spell =>
      simp only [State.setSequencer_record, State.setRecord_record, hshows.digit₁, hshows.digit₂,
        hshows.digit₃]
      omega
    case odd₄ =>
      refine hshows.digit₄.trans ?_
      omega
    case odd₅ => exact BitVec.eq_of_toNat_eq (hshows.digit₅.trans (by rw [hodd]; rfl))
    case even₄ =>
      refine hshows.digit₄.trans ?_
      omega
    case even₅ => exact BitVec.eq_of_toNat_eq (hshows.digit₅.trans (by rw [heven]; rfl))
  case isFalse hge =>
    have hd := decodeMeasurement_of_hTooLarge hx.u (by omega)
    rw [decodePhase_of_error rfl hd, State.settle_error,
      State.raise_of_none (s := s.captured (measFrame raw sgn true)) _ hf]
    exact ⟨hp, rfl, rfl, _, rfl, hm⟩

/-! ### Model-level faults (R201) -/

theorem State.snapshot_eq (s : State) :
    s.snapshot = ⟨s.acc, s.bits.getLsbD 23, s.sign, s.bits.getLsbD 0⟩ := rfl

/-- A SCAN_STEP without a word records the fault of the table it could not read. -/
theorem exec_main_of_scanWord_error {s : State} (hf : s.fault = none) (hb : s.hookBlocked = false)
    (hp : s.phase = .scan) {f : Fault} (hw : s.scanWord = .error f) :
    exec .main s = .next { s with fault := some f } := by
  rw [exec_main_of_scan hf hb hp, scanStep_of_error hw, State.settle_error,
    State.raise_of_none f hf]

/-- A DECODE_PHASE without a value records the snapshot. -/
theorem exec_main_of_decode_error {s : State} (hf : s.fault = none) (hb : s.hookBlocked = false)
    (hp : s.phase = .decode) (hg : s.gateActive = false) {info : RangeInfo}
    (hi : decodeMeasurement s.snapshot = .error info) :
    exec .main s = .next { s with fault := some (.decodeRange info s.snapshot) } := by
  rw [exec_main_of_decode hf hb hp, decodePhase_of_error hg hi, State.settle_error,
    State.raise_of_none _ hf]

theorem exec_clk_of_index_ge {s : State} (hf : s.fault = none) (hg : s.gateActive = true)
    (hi : 24 ≤ s.bitIndex.toNat) (d : Level) :
    exec (.clk d) s = .next { s with fault := some (.tableRange .w s.bitIndex.toNat) } := by
  obtain ⟨hclosed, -⟩ | ⟨hlt, -⟩ | ⟨-, -, h⟩ := clockEdge_cases d s
  · exact absurd hg (by simp [hclosed])
  · omega
  · rw [exec_clk, h, State.settle_error, State.raise_of_none _ hf]

/-- Settles O40: F1 and F2 by the snapshot Decode has no value for, F3 by the table read that
fails. -/
theorem modelFaultsAreRecordedAndChangeNothingElse :
    Obligations.ModelFaultsAreRecordedAndChangeNothingElse := by
  intro s hf
  refine ⟨fun hb hp hg hu hlarge => ?tooLarge, fun hb hp hg hu hc hzero => ?belowC,
    fun hpos hb hp hk => ?glyph, fun hb hp hpos => ?anode, fun d hg hi => ?weight⟩
  case tooLarge =>
    have hx : s.snapshot = ⟨s.acc, true, s.sign, s.bits.getLsbD 0⟩ := by
      rw [State.snapshot_eq, hu]
    rw [← hx]
    exact exec_main_of_decode_error hf hb hp hg (decodeMeasurement_of_hTooLarge hu hlarge)
  case belowC =>
    have hx : s.snapshot = ⟨s.acc, true, s.sign, true⟩ := by
      rw [State.snapshot_eq, hu, hc]
    rw [← hx]
    exact exec_main_of_decode_error hf hb hp hg (decodeMeasurement_of_hBelowC hu hc hzero)
  case glyph => exact exec_main_of_scanWord_error hf hb hp (s.scanWord_of_glyph_ge hpos hk)
  case anode => exact exec_main_of_scanWord_error hf hb hp (s.scanWord_of_pos_ge hpos)
  case weight => exact exec_clk_of_index_ge hf hg hi d

/-! ### The sequencer's table (R172) -/

theorem State.advance_sequencer {s : State} (hs : s.sequencerInv) (hp : s.phase = .scan) :
    (s.advance.phase, s.advance.cyc.toNat, s.advance.pos.toNat) =
      if s.pos.toNat < 5 then (.scan, s.cyc.toNat, s.pos.toNat + 1)
      else if s.cyc.toNat < 430 then (.scan, s.cyc.toNat + 1, 0)
      else (.decode, 0, 0) := by
  obtain ⟨hcyc, hpos, -⟩ := hs
  obtain ⟨h5, h⟩ | ⟨h5, h430, h⟩ | ⟨h5, h430, h⟩ := s.advance_cases
  case inl =>
    have hnext : (s.pos + 1).toNat = s.pos.toNat + 1 := by bv_omega
    rw [h, if_pos h5, ← hnext, ← hp]
    rfl
  case inr.inl =>
    have hnext : (s.cyc + 1).toNat = s.cyc.toNat + 1 := by bv_omega
    rw [h, if_neg (by omega), if_pos h430, ← hnext, ← hp]
    rfl
  case inr.inr =>
    rw [h, if_neg (by omega), if_neg (by omega)]
    rfl

theorem decodePhase_sequencer {s t : State} (h : decodePhase s = .ok t) :
    t.phase = .scan ∧ t.cyc = 0 ∧ t.pos = 0 := by
  obtain ⟨-, hd⟩ | ⟨r, -, -, hd⟩ | ⟨info, -, -, hd⟩ := decodePhase_cases s <;> rw [hd] at h <;>
    cases h <;> exact ⟨rfl, rfl, rfl⟩

/-- An operation that leaves no mark has answered the state it gives. -/
theorem State.eq_ok_of_settle_fault {s : State} {r : Except Fault State}
    (h : (s.settle r).fault = none) : r = .ok (s.settle r) := by
  obtain ⟨t, hr, ht⟩ | ⟨f, -, ht⟩ := s.settle_cases r
  · rw [ht, hr]
  · rw [ht] at h
    cases h

/-- Settles O37: without a fault the sequencer goes by its table; a fault changes the mark alone. -/
theorem sequencerFollowsItsTable : Obligations.SequencerFollowsItsTable := by
  intro s hs hf hb
  refine ⟨mainStep s, exec_main s, fun hnone => ?moved, fun hsome => ?stopped⟩
  case moved =>
    have he : s.mainEnabled = true := s.mainEnabled_iff.2 ⟨hf, hb⟩
    obtain ⟨hoff, -⟩ | ⟨-, hp, h⟩ | ⟨-, hp, h⟩ := mainStep_cases s
    · exact absurd he (by simp [hoff])
    · rw [h] at hnone ⊢
      obtain ⟨hphase, hcyc, hpos⟩ := decodePhase_sequencer (State.eq_ok_of_settle_fault hnone)
      rw [if_pos hp, hphase, hcyc, hpos]
      rfl
    · rw [h] at hnone ⊢
      obtain ⟨w, -, hw⟩ | ⟨f, -, hw⟩ := scanStep_cases s
      · have hscan : s.phase ≠ .decode := by rw [hp]; decide
        rw [hw, State.settle_ok, State.advance_sequencer (s := s.emitWord w) hs hp, if_neg hscan]
        rfl
      · rw [hw, State.settle_error, State.raise_of_none f hf] at hnone
        cases hnone
  case stopped =>
    obtain ⟨f, hsome⟩ := Option.ne_none_iff_exists'.1 hsome
    rw [mainStep_of_raised hf hsome, ← hf]

end Sys2Proof.Machine
end

section
/-! SUPPORT. The invariant of every reachable state (`spec/10_state.md` rules R27, R31, R32, R36,
`spec/20_memory.md` rule R53): each of its clauses is kept by the agent that writes its elements, and
by the other one as far as it leaves them alone. -/

namespace Sys2Proof.Machine

/-! ### The clauses by name -/

section
variable {s : State}

theorem State.Inv.captureInv (hs : s.Inv) : s.captureInv :=
  hs.1

theorem State.Inv.displayInv (hs : s.Inv) : s.displayInv :=
  hs.2.1

theorem State.Inv.sequencerInv (hs : s.Inv) : s.sequencerInv :=
  hs.2.2.1

theorem State.Inv.outputInv (hs : s.Inv) : s.outputInv :=
  hs.2.2.2.1

theorem State.captureInv.bitIndex_lt (hs : s.captureInv) : s.bitIndex.toNat < 24 :=
  hs.1

theorem State.captureInv.acc_le (hs : s.captureInv) : s.acc.toNat ≤ 65537 :=
  hs.2.2.2.1

end

/-! ### The capture state (R27) -/

theorem clockEdge_of_open {s : State} (hg : s.gateActive = true) (hi : s.bitIndex.toNat < 24)
    (d : Level) : clockEdge d s = .ok (completeIfFull (s.clocked d)) := by
  obtain ⟨hclosed, -⟩ | ⟨_, -, h⟩ | ⟨-, hge, -⟩ := clockEdge_cases d s
  · exact absurd hg (by simp [hclosed])
  · rw [h, weights_eq_ofNat hi, weigh_ofNat, State.clocked]
  · omega

theorem gateEdge_captureInv {s : State} (hs : s.captureInv) : (gateEdge s).captureInv := by
  obtain ⟨hidx, -, hsign, -, -⟩ := hs
  exact ⟨hidx, nofun, hsign, Nat.zero_le _, fun _ => Nat.zero_le _⟩

/-- The bit stored adds at most the weight of its position to the sum of the weights below it. -/
theorem State.clocked_acc_le {s : State} (hs : s.captureInv) (hg : s.gateActive = true)
    (d : Level) : (s.clocked d).acc.toNat ≤ weightSum (s.bitIndex.toNat + 1) := by
  obtain ⟨-, -, -, hmax, hsum⟩ := hs
  have hbit : weightOf s.bitIndex.toNat * d.toNat ≤ weightOf s.bitIndex.toNat :=
    (Nat.mul_le_mul_left _ d.toNat_le).trans (Nat.mul_one _).le
  rw [State.clocked_acc_toNat hmax, weightSum]
  exact Nat.add_le_add (hsum hg) hbit

theorem completeIfFull_clocked_captureInv {s : State} (hs : s.captureInv)
    (hg : s.gateActive = true) (d : Level) : (completeIfFull (s.clocked d)).captureInv := by
  have hidx := hs.bitIndex_lt
  have hsum := State.clocked_acc_le hs hg d
  have hmax := hsum.trans (weightSum_le hidx)
  have hsign : (completeIfFull (s.clocked d)).sign
      = (completeIfFull (s.clocked d)).bits.getLsbD 20 := by
    rw [completeIfFull_sign, completeIfFull_bits]
    rfl
  have hwindow := completeIfFull_clocked_window hg hidx d
  rw [← completeIfFull_acc] at hsum hmax
  split at hwindow <;> obtain ⟨hactive, hnext⟩ := hwindow
  case isTrue =>
    refine ⟨?_, fun _ => hnext, hsign, hmax, fun hopen => ?_⟩
    · rw [hnext]
      decide
    · rw [hactive] at hopen
      cases hopen
  case isFalse =>
    refine ⟨by omega, fun hclosed => ?_, hsign, hmax, fun _ => by rwa [hnext]⟩
    rw [hactive] at hclosed
    cases hclosed

theorem clockEdge_captureInv {d : Level} {s t : State} (hs : s.captureInv)
    (h : clockEdge d s = .ok t) : t.captureInv := by
  cases hg : s.gateActive with
  | false =>
    rw [clockEdge_of_closed hg] at h
    cases h
    exact hs
  | true =>
    rw [clockEdge_of_open hg hs.bitIndex_lt] at h
    cases h
    exact completeIfFull_clocked_captureInv hs hg d

theorem bothEdges_captureInv {order : SimulOrder} {d : Level} {s t : State} (hs : s.captureInv)
    (h : bothEdges order d s = .ok t) : t.captureInv := by
  cases order with
  | gateFirst => exact clockEdge_captureInv (gateEdge_captureInv hs) h
  | clockFirst =>
    obtain ⟨u, hu, -⟩ := clockEdge_of_lt hs.bitIndex_lt d
    rw [bothEdges, hu] at h
    cases h
    exact gateEdge_captureInv (clockEdge_captureInv hs hu)

theorem sample_captureInv {g c d : Level} {s t : State} (hs : s.captureInv)
    (h : sample g c d s = .ok t) : t.captureInv := by
  have hlevels : (s.setLevels g c).captureInv := hs
  obtain ⟨-, -, he⟩ | ⟨-, -, he⟩ | ⟨-, -, he⟩ | ⟨-, -, he⟩ := sample_cases g c d s <;> rw [he] at h
  case inl => exact bothEdges_captureInv (s := (s.setLevels g c).draw) hlevels h
  case inr.inl =>
    cases h
    exact gateEdge_captureInv hlevels
  case inr.inr.inl => exact clockEdge_captureInv hlevels h
  case inr.inr.inr =>
    cases h
    exact hlevels

/-- An operation that raises a fault keeps the captured frame. -/
theorem State.settle_captureInv {s : State} {r : Except Fault State} (hs : s.captureInv)
    (hok : ∀ t, r = .ok t → t.captureInv) : (s.settle r).captureInv := by
  cases r with
  | ok t => exact hok t rfl
  | error f =>
    rw [State.settle_error, State.raise_eq]
    exact hs

theorem SameFrame.captureInv {s t : State} (h : SameFrame s t) (hs : s.captureInv) :
    t.captureInv := by
  simpa only [State.captureInv, h.gateActive, h.bitIndex, h.acc, h.bits, h.sign] using hs

theorem exec_capture_captureInv {i : Instr} (hi : isCapture i = true) {s t : State}
    (hs : s.captureInv) (h : exec i s = .next t) : t.captureInv := by
  cases i with
  | gate =>
    cases h
    exact gateEdge_captureInv hs
  | clk d =>
    cases h
    exact State.settle_captureInv hs fun _ => clockEdge_captureInv hs
  | smp g c d =>
    cases h
    exact State.settle_captureInv hs fun _ => sample_captureInv hs
  | main => cases hi
  | reset => cases hi

/-! ### The capture agent keeps the whole invariant -/

/-- The clauses beside the one on the capture state speak of elements no capture operation writes. -/
theorem State.inv_of_withCaptureOf {s t : State} (h : t.withCaptureOf s = s) (hs : s.Inv)
    (ht : t.captureInv) : t.Inv := by
  rw [← h] at hs
  obtain ⟨-, hdisplay, hsequencer, houtput, hhook, hrange⟩ := hs
  exact ⟨ht, hdisplay, hsequencer, houtput, hhook, hrange⟩

/-- With the index inside the frame, as the invariant has it, a capture operation raises no fault. -/
theorem exec_capture_of_inv {i : Instr} (hi : isCapture i = true) {s t : State} (hs : s.Inv)
    (h : exec i s = .next t) : t.withCaptureOf s = s ∧ t.Inv := by
  obtain ⟨u, hu, hframe⟩ :=
    captureOperationsLeaveTheMainAgentAlone s i hi hs.captureInv.bitIndex_lt
  rw [h] at hu
  cases hu
  exact ⟨hframe,
    State.inv_of_withCaptureOf hframe hs (exec_capture_captureInv hi hs.captureInv h)⟩

/-! ### The record (R31) -/

/-- What Decode answers is a record in range, with a 0 or a 5 at place 5 in the inch branch. -/
theorem decodeMeasurement_displayInv {x : Snapshot} {r : Record} (hm : x.m.toNat ≤ 65537)
    (h : decodeMeasurement x = .ok r) :
    (r[0] = 11 ∨ r[0] = 12) ∧ (∀ k : Fin 6, k ≠ 0 → r[k].toNat ≤ 9)
      ∧ (x.u = true → r[5] = 0 ∨ r[5] = 5) := by
  have hsign : ∀ {n₁ n₂ n₃ n₄ n₅ : Nat}, ShowsDigits r x.s n₁ n₂ n₃ n₄ n₅ →
      r[0] = 11 ∨ r[0] = 12 := fun hshows => by
    rw [hshows.sign]
    cases x.s <;> decide
  cases hu : x.u with
  | false =>
    rw [decodeMeasurement_of_mm hu] at h
    cases h
    have hshows := showsDigits_decodeMm (show x.m.toNat < 100000 by omega) x.s
    exact ⟨hsign hshows, hshows.le_nine, nofun⟩
  | true =>
    obtain hmm | ⟨hc, hmax⟩ := (decodeFaultsExactlyOutsideItsRange x).2.2.1 ⟨r, h⟩
    · exact absurd hu (by simp [hmm])
    obtain ⟨r', hr', hshows⟩ := decodeMeasurement_showsDigits_of_inch hu hc hmax
    rw [h] at hr'
    cases hr'
    refine ⟨hsign hshows, hshows.le_nine, fun _ => ?_⟩
    have hlast := hshows.digit₅
    cases hflag : x.c <;> rw [hflag] at hlast
    · exact .inl (BitVec.eq_of_toNat_eq hlast)
    · exact .inr (BitVec.eq_of_toNat_eq hlast)

/-- Every glyph of a record in range stands in the table. -/
theorem State.record_lt_of_displayInv {s : State} (hs : s.displayInv) {p : Nat} (hp : p < 6) :
    s.record[p].toNat < 13 := by
  obtain ⟨hsign, hdigits, -⟩ := hs
  by_cases hzero : p = 0
  · subst hzero
    rcases hsign with h | h <;> rw [h] <;> decide
  · have hdigit := hdigits ⟨p, hp⟩ fun h => hzero (congrArg Fin.val h)
    exact hdigit.trans_lt (by decide)

/-! ### The main agent keeps the invariant -/

theorem decodePhase_inv {s t : State} (hs : s.Inv) (hb : s.hookBlocked = false)
    (h : decodePhase s = .ok t) : t.Inv := by
  obtain ⟨hcapture, hdisplay, -, houtput, -, hrange⟩ := hs
  have hstart : (0 : CycleCount).toNat ≤ 430 ∧ (0 : Position).toNat ≤ 5
      ∧ (Phase.scan = .decode → (0 : CycleCount) = 0 ∧ (0 : Position) = 0) := by decide
  have hfree : s.hookBlocked = true → t.atHook = true := by simp [hb]
  obtain ⟨-, hd⟩ | ⟨r, -, hr, hd⟩ | ⟨info, -, -, hd⟩ := decodePhase_cases s <;> rw [hd] at h <;>
    cases h
  · exact ⟨hcapture, hdisplay, hstart, houtput, hfree, hrange⟩
  · exact ⟨hcapture, decodeMeasurement_displayInv (x := s.snapshot) hcapture.acc_le hr,
      hstart, houtput, hfree, hrange⟩

theorem State.advance_sequencerInv {s : State} (hs : s.sequencerInv) (hp : s.phase = .scan) :
    s.advance.sequencerInv := by
  obtain ⟨hcyc, hpos, -⟩ := hs
  obtain ⟨h5, h⟩ | ⟨h5, h430, h⟩ | ⟨h5, h430, h⟩ := s.advance_cases <;> rw [h]
  · exact ⟨hcyc, by rw [State.setSequencer_pos]; bv_omega, by simp [hp]⟩
  · exact ⟨by rw [State.setSequencer_cyc]; bv_omega, Nat.zero_le _, by simp [hp]⟩
  · exact ⟨Nat.zero_le _, Nat.zero_le _, fun _ => ⟨rfl, rfl⟩⟩

theorem State.emitWord_outputInv {s : State} (hs : s.outputInv) (w : Word16) :
    (s.emitWord w).outputInv :=
  have ⟨hpaced, _⟩ := hs
  ⟨hpaced, beq_self_eq_true w⟩

theorem State.advance_outputInv {s : State} (hs : s.outputInv) : s.advance.outputInv := by
  obtain ⟨-, h⟩ | ⟨-, -, h⟩ | ⟨-, -, h⟩ := s.advance_cases <;> rw [h] <;> exact hs

/-- The clauses on the capture state, the record and the fault speak of elements SCAN_STEP does not
write. -/
theorem State.inv_of_withScanOf {s t : State} (h : t.withScanOf s = s) (hs : s.Inv)
    (hb : s.hookBlocked = false) (hsequencer : t.sequencerInv) (houtput : t.outputInv) : t.Inv := by
  have hb' : t.hookBlocked = s.hookBlocked := (congrArg State.hookBlocked h :)
  rw [← h] at hs
  obtain ⟨hcapture, hdisplay, -, -, -, hrange⟩ := hs
  exact ⟨hcapture, hdisplay, hsequencer, houtput, by simp [hb', hb], hrange⟩

theorem scanStep_inv {s t : State} (hs : s.Inv) (hb : s.hookBlocked = false) (hp : s.phase = .scan)
    (h : scanStep s = .ok t) : t.Inv := by
  have hframe := scanStep_withScanOf h
  obtain ⟨w, -, hw⟩ | ⟨f, -, hw⟩ := scanStep_cases s <;> rw [hw] at h <;> cases h
  exact State.inv_of_withScanOf hframe hs hb
    (State.advance_sequencerInv (s := s.emitWord w) hs.sequencerInv hp)
    (State.advance_outputInv (State.emitWord_outputInv hs.outputInv w))

/-- A DecodeRange mark, from a state that is not held, is in keeping with every clause. -/
theorem State.raise_decodeRange_inv {s : State} (hs : s.Inv) (hb : s.hookBlocked = false)
    (info : RangeInfo) (x : Snapshot) : (s.raise (.decodeRange info x)).Inv := by
  obtain ⟨hcapture, hdisplay, hsequencer, houtput, -, hrange⟩ := hs
  cases hf : s.fault with
  | none =>
    rw [State.raise_of_none _ hf]
    exact ⟨hcapture, hdisplay, hsequencer, houtput, by simp [hb], rfl⟩
  | some g =>
    rw [State.raise_of_some _ hf]
    exact ⟨hcapture, hdisplay, hsequencer, houtput, by simp [hb], hrange⟩

/-- In a state that meets the invariant SCAN_STEP has its word (R53). -/
theorem State.scanWord_of_inv {s : State} (hs : s.Inv) : ∃ w, s.scanWord = .ok w := by
  obtain ⟨-, hdisplay, ⟨-, hpos, -⟩, -⟩ := hs
  exact ⟨_, s.scanWord_of_lt (by omega) (State.record_lt_of_displayInv hdisplay (by omega))⟩

theorem mainStep_inv {s : State} (hs : s.Inv) : (mainStep s).Inv := by
  obtain ⟨-, h⟩ | ⟨he, hp, h⟩ | ⟨he, hp, h⟩ := mainStep_cases s <;> rw [h]
  case inl => exact hs
  all_goals obtain ⟨-, hb⟩ := s.mainEnabled_iff.1 he
  case inr.inl =>
    cases hd : decodePhase s with
    | ok t => exact decodePhase_inv hs hb hd
    | error f =>
      obtain ⟨-, ht⟩ | ⟨_, -, -, ht⟩ | ⟨info, -, -, ht⟩ := decodePhase_cases s <;> rw [hd] at ht <;>
        cases ht
      exact State.raise_decodeRange_inv hs hb info s.snapshot
  case inr.inr =>
    obtain ⟨w, hw⟩ := State.scanWord_of_inv hs
    rw [scanStep_of_word hw]
    exact scanStep_inv hs hb hp (scanStep_of_word hw)

/-! ### RESET, the reporter and the step -/

/-- Settles O45, clause by clause on the values of R39. -/
theorem invariantHoldsAtReset : Obligations.InvariantHoldsAtReset := by
  unfold Obligations.InvariantHoldsAtReset
  decide

/-- The free value that `out_latch` takes is no word sent, so no clause speaks of it. -/
theorem State.powerOn_inv (s : State) : s.powerOn.Inv := by
  obtain ⟨hcapture, hdisplay, hsequencer, -⟩ := invariantHoldsAtReset.1
  exact ⟨hcapture, hdisplay, hsequencer, ⟨rfl, rfl⟩, nofun, rfl⟩

theorem exec_inv {i : Instr} {s t : State} (hs : s.Inv) (h : exec i s = .next t) : t.Inv := by
  cases hi : isCapture i with
  | true => exact (exec_capture_of_inv hi hs h).2
  | false =>
    cases i with
    | main =>
      cases h
      exact mainStep_inv hs
    | reset =>
      cases h
      exact s.powerOn_inv
    | _ => cases hi

/-- The hold is taken only at the hook point, and asking for it moves nothing. -/
theorem State.holdAtHook_inv {s : State} (hs : s.Inv) : s.holdAtHook.Inv := by
  obtain ⟨hcapture, hdisplay, hsequencer, houtput, hhook, hrange⟩ := hs
  refine ⟨hcapture, hdisplay, hsequencer, houtput, fun hheld => ?_, hrange⟩
  rw [State.holdAtHook_hookBlocked, Bool.or_eq_true] at hheld
  exact hheld.elim hhook id

theorem State.releaseHook_inv {s : State} (hs : s.Inv) : s.releaseHook.Inv := by
  obtain ⟨hcapture, hdisplay, hsequencer, houtput, -, hrange⟩ := hs
  exact ⟨hcapture, hdisplay, hsequencer, houtput, nofun, hrange⟩

/-- Settles O46, by what the step carries out; no clause speaks of the input list. -/
theorem everyStepKeepsTheInvariant : Obligations.EveryStepKeepsTheInvariant := by
  intro s t hs h
  have hrest : ∀ rest, (s.setPending rest).Inv := fun _ => hs
  obtain ⟨-, hstep⟩ | ⟨_, _, rest, -, -, hstep⟩ | ⟨_, _, -, -, hstep⟩ | ⟨rest, -, hstep⟩ |
    ⟨rest, -, hstep⟩ := step_cases s <;> rw [hstep] at h
  · exact exec_inv hs h
  · exact exec_inv (hrest rest) h
  · cases h
  · cases h
    exact State.holdAtHook_inv (hrest rest)
  · cases h
    exact State.releaseHook_inv (hrest rest)

end Sys2Proof.Machine
end

section
/-! SUPPORT. The words of the display (`spec/30_encoding.md` rules R89, R92, `spec/42_display.md` rule
R160): which position a word selects, and what the chain shows after the output trace. -/

namespace Sys2Proof.Machine

/-! ### One-hot words (R89) -/

theorem oneHot_iff (w : Word16) : oneHot w = true ↔ w ≠ 0 ∧ w &&& (w - 1) = 0 := by
  simp [oneHot]

/-- A word with exactly one bit set is a power of two. -/
theorem exists_twoPow_of_oneHot {w : Word16} (h : oneHot w = true) :
    ∃ i, i < 16 ∧ w = BitVec.twoPow 16 i := by
  obtain ⟨hne, hand⟩ := (oneHot_iff w).1 h
  have hpos : w.toNat ≠ 0 := fun h0 => hne (BitVec.eq_of_toNat_eq h0)
  have hpred : (w - 1).toNat = w.toNat - 1 := by bv_omega
  have hnat : w.toNat &&& (w.toNat - 1) = 0 := by
    rw [← hpred, ← BitVec.toNat_and, hand]
    rfl
  obtain ⟨i, hi⟩ := (Nat.and_sub_one_eq_zero_iff_isPowerOfTwo hpos).1 hnat
  have hlt : i < 16 := (Nat.pow_lt_pow_iff_right (by decide : 1 < 2)).1 (hi ▸ w.isLt)
  exact ⟨i, hlt, BitVec.eq_of_toNat_eq (by rw [hi, BitVec.toNat_twoPow_of_lt hlt])⟩

/-- Two one-hot words share a bit exactly when they are the same. -/
theorem and_ne_zero_iff_of_oneHot {v w : Word16} (hv : oneHot v = true) (hw : oneHot w = true) :
    v &&& w ≠ 0 ↔ v = w := by
  constructor
  · intro h
    obtain ⟨i, -, rfl⟩ := exists_twoPow_of_oneHot hv
    obtain ⟨j, hj, rfl⟩ := exists_twoPow_of_oneHot hw
    by_contra hne
    have hij : i ≠ j := fun hij => hne (by rw [hij])
    exact h (by simp [BitVec.and_twoPow, BitVec.getLsbD_twoPow, hij])
  · rintro rfl
    rw [BitVec.and_self]
    exact ((oneHot_iff v).1 hv).1

/-! ### The constraint on the tables (R89) -/

/-- What the check of a board says of its entries. -/
structure SelectTables (b : Board) : Prop where
  disjoint : ∀ (k : Nat) (hk : k < 13) (p : Nat) (hp : p < 6), b.glyph[k] &&& b.anode[p] = 0
  oneHot : ∀ (p : Nat) (hp : p < 6), oneHot b.anode[p] = true
  injective : ∀ (p q : Nat) (hp : p < 6) (hq : q < 6), b.anode[p] = b.anode[q] ↔ p = q

theorem selectTables_of_wf {b : Board} (h : b.wf = true) : SelectTables b := by
  simp only [Board.wf, Bool.and_eq_true] at h
  obtain ⟨⟨⟨hdisjoint, honeHot⟩, hdistinct⟩, -⟩ := h
  simp only [Board.disjointTables, List.all_eq_true, Vector.mem_toList_iff, beq_iff_eq]
    at hdisjoint
  simp only [Board.oneHotAnodes, List.all_eq_true, Vector.mem_toList_iff] at honeHot
  have hnodup : b.anode.toList.Nodup := of_decide_eq_true hdistinct
  refine ⟨fun k hk p hp => hdisjoint _ (Vector.getElem_mem hk) _ (Vector.getElem_mem hp),
    fun p hp => honeHot _ (Vector.getElem_mem hp), fun p q hp hq => ?_⟩
  have hindex := hnodup.getElem_inj_iff (i := p) (j := q) (hi := by simpa) (hj := by simpa)
  rwa [Vector.getElem_toList, Vector.getElem_toList] at hindex

/-- Settles O30, by evaluation of the default tables. -/
theorem defaultTablesMeetTheConstraint : Obligations.DefaultTablesMeetTheConstraint :=
  ⟨by decide, by decide, rfl⟩

/-! ### The word of a position (R92) -/

/-- For a glyph in the table `G(p)` is its pattern, the mask of the point and the select word. -/
theorem State.positionWord_of_lt (s : State) {p : Nat} (hp : p < 6)
    (hk : s.record[p].toNat < 13) :
    s.positionWord p = (s.board.glyph[s.record[p].toNat]
      ||| (if p = s.dpPosition.toNat then s.board.glyph[10] else 0)) ||| s.board.anode[p] := by
  simp [State.positionWord, hp, hk]

/-- Settles O29: of the three parts of a word only the select word has bits among the select bits,
and the select words are one-hot and different. -/
theorem wordSelectsExactlyItsPosition : Obligations.WordSelectsExactlyItsPosition := by
  intro s p q hwf hk
  have hb := selectTables_of_wf hwf
  have hpoint : (if p.val = s.dpPosition.toNat then s.board.glyph[10] else 0)
      &&& s.board.anode[q.val] = 0 := by
    split
    · exact hb.disjoint 10 (by decide) q q.isLt
    · exact BitVec.zero_and
  have hglyph : s.board.glyph[s.record[p.val].toNat] &&& s.board.anode[q.val] = 0 :=
    hb.disjoint _ hk q q.isLt
  have hselect : s.positionWord p &&& s.board.anode[q.val]
      = s.board.anode[p.val] &&& s.board.anode[q.val] := by
    rw [s.positionWord_of_lt p.isLt hk, BitVec.and_or_distrib_right, BitVec.and_or_distrib_right,
      hpoint, hglyph]
    simp
  calc s.positionWord p &&& s.board.anode[q.val] ≠ 0
      ↔ s.board.anode[p.val] = s.board.anode[q.val] := by
        rw [hselect, and_ne_zero_iff_of_oneHot (hb.oneHot p p.isLt) (hb.oneHot q q.isLt)]
    _ ↔ p.val = q.val := hb.injective p q p.isLt q.isLt
    _ ↔ p = q := Fin.val_inj

/-! ### The chain after the output trace (R36, R160) -/

theorem serialTrace_append (es fs : List OutEvent) :
    serialTrace (es ++ fs) = serialTrace es ++ serialTrace fs := by
  induction es with
  | nil => rfl
  | cons e es ih => cases e <;> simp [serialTrace, ih]

/-- After a trace held newest first the chain shows the newest word, or what it showed before. -/
theorem Chain.run_serialTrace_outputs (c : Chain) (out : List OutEvent) :
    (c.run (serialTrace out.reverse)).outputs = (lastWord out).getD c.outputs := by
  induction out with
  | nil => rfl
  | cons e rest ih =>
    rw [List.reverse_cons, serialTrace_append, Chain.run_append]
    cases e with
    | word w =>
      have hword : serialTrace [.word w] = wordBits w := List.append_nil _
      rw [hword, Chain.run_wordBits, lastWord, Option.getD_some]
    | dwell => exact ih

/-- Where each word has its dwell, a trace that is not empty holds a word (R154). -/
theorem exists_lastWord_of_paced {out : List OutEvent} (h : paced out = true) (hne : out ≠ []) :
    ∃ w, lastWord out = some w := by
  match out, h, hne with
  | .dwell :: .word w :: _, _, _ => exact ⟨w, rfl⟩

/-- Settles O34: the chain shows the last word of the trace, which is `out_latch`. -/
theorem chainOutputsFollowTheTrace : Obligations.ChainOutputsFollowTheTrace := by
  intro s c hs
  obtain ⟨hpaced, hlast⟩ := hs
  rw [State.outTrace, c.run_serialTrace_outputs]
  by_cases hout : s.out = []
  · rw [if_pos hout, hout]
    rfl
  · obtain ⟨w, hw⟩ := exists_lastWord_of_paced hpaced hout
    rw [hw, Option.all_some, beq_iff_eq] at hlast
    rw [if_neg hout, hw, Option.getD_some, hlast]

end Sys2Proof.Machine
end

section
/-! SUPPORT. Scan passes (`spec/42_display.md` rules R150 to R157, `spec/43_mainloop.md` rules R172,
R178): what a number of SCAN_STEPs leaves, whatever the capture agent does between them, and what a
held main agent shows (R190). -/

namespace Sys2Proof.Machine

/-! ### One SCAN_STEP from a state that meets the invariant -/

theorem State.scanWord_eq_positionWord {s : State} (hs : s.Inv) :
    s.scanWord = .ok (s.positionWord s.pos.toNat) := by
  obtain ⟨-, hdisplay, ⟨-, hpos, -⟩, -⟩ := hs
  have hp : s.pos.toNat < 6 := by omega
  have hk := State.record_lt_of_displayInv hdisplay hp
  rw [s.scanWord_of_lt hp hk, assembleWord_beq, s.positionWord_of_lt hp hk]
  by_cases hpoint : s.pos = s.dpPosition
  · rw [if_pos hpoint, if_pos (by rw [hpoint])]
  · rw [if_neg hpoint, if_neg fun h => hpoint (BitVec.eq_of_toNat_eq h)]
    simp

theorem exec_main_of_scan_inv {s : State} (hs : s.Inv) (hf : s.fault = none)
    (hb : s.hookBlocked = false) (hp : s.phase = .scan) :
    exec .main s = .next (s.emitWord (s.positionWord s.pos.toNat)).advance := by
  rw [exec_main_of_scan hf hb hp, scanStep_of_word (State.scanWord_eq_positionWord hs),
    State.settle_ok]

theorem State.advance_out (s : State) : s.advance.out = s.out := by
  obtain ⟨-, h⟩ | ⟨-, -, h⟩ | ⟨-, -, h⟩ := s.advance_cases <;> rw [h] <;> rfl

theorem State.advance_emitWord_outTrace (s : State) (w : Word16) :
    (s.emitWord w).advance.outTrace = s.outTrace ++ [.word w, .dwell] := by
  rw [State.outTrace, State.advance_out, State.emitWord_out, State.outTrace]
  simp

theorem State.scanStepsLeft_pos {s : State} (hs : s.sequencerInv) : 0 < s.scanStepsLeft := by
  obtain ⟨-, hpos, -⟩ := hs
  rw [State.scanStepsLeft]
  omega

/-- At position 0 whole refresh cycles are left. -/
theorem State.scanStepsLeft_of_pos_zero {s : State} (hp : s.pos = 0) :
    s.scanStepsLeft = 6 * (430 - s.cyc.toNat) + 6 := by
  rw [State.scanStepsLeft, hp]
  rfl

/-- The advance counts down the SCAN_STEPs left, and the last of them leads to phase DECODE. -/
theorem State.advance_scanStepsLeft {s : State} (hs : s.sequencerInv) (hp : s.phase = .scan) :
    if s.scanStepsLeft = 1 then s.advance.phase = .decode
    else s.advance.phase = .scan ∧ s.advance.scanStepsLeft + 1 = s.scanStepsLeft := by
  obtain ⟨hcyc, hpos, -⟩ := hs
  obtain ⟨h5, h⟩ | ⟨h5, h430, h⟩ | ⟨h5, h430, h⟩ := s.advance_cases <;> rw [h]
  case inl =>
    have hnext : (s.pos + 1).toNat = s.pos.toNat + 1 := by bv_omega
    simp only [State.scanStepsLeft, State.setSequencer_cyc, State.setSequencer_pos, hnext]
    rw [if_neg (by omega)]
    exact ⟨hp, by omega⟩
  case inr.inl =>
    have hnext : (s.cyc + 1).toNat = s.cyc.toNat + 1 := by bv_omega
    rw [State.scanStepsLeft_of_pos_zero (State.setSequencer_pos ..), State.setSequencer_cyc, hnext,
      State.scanStepsLeft, if_neg (by omega)]
    exact ⟨hp, by omega⟩
  case inr.inr =>
    rw [State.scanStepsLeft, if_pos (by omega)]
    rfl

/-! ### The words of several SCAN_STEPs -/

/-- The output events of `n` SCAN_STEPs from `s` on, as long as the pass lasts. -/
def State.scanEvents (s : State) (n : Nat) : List OutEvent :=
  (List.range n).flatMap fun k => [.word (s.positionWord ((s.pos.toNat + k) % 6)), .dwell]

theorem State.scanEvents_succ (s : State) (n : Nat) :
    s.scanEvents (n + 1)
      = s.scanEvents n ++ [.word (s.positionWord ((s.pos.toNat + n) % 6)), .dwell] := by
  simp [State.scanEvents, List.range_succ]

theorem State.scanEvents_add_six {s : State} (hp : s.pos = 0) (m : Nat) :
    s.scanEvents (6 * m + 6) = s.scanEvents (6 * m) ++ s.cycleEvents := by
  have hzero : s.pos.toNat = 0 := by rw [hp]; rfl
  simp only [State.scanEvents, State.cycleEvents, List.range_add, List.flatMap_append,
    List.flatMap_map, hzero, Nat.zero_add]
  refine congrArg _ (List.flatMap_congr fun p hmem => ?_)
  have hlt := List.mem_range.1 hmem
  rw [show (6 * m + p) % 6 = p by omega]

/-- From position 0 on, whole refresh cycles show the six words over and over (R156, R157). -/
theorem State.scanEvents_six_mul {s : State} (hp : s.pos = 0) (m : Nat) :
    s.scanEvents (6 * m) = (List.replicate m s.cycleEvents).flatten := by
  induction m with
  | zero => rfl
  | succ m ih =>
    rw [Nat.mul_succ, State.scanEvents_add_six hp, ih, List.replicate_succ', List.flatten_append,
      List.flatten_singleton]

/-! ### Runs of SCAN_STEPs and capture operations -/

/-- `t` is `s`, in phase SCAN, after `n` SCAN_STEPs, whatever the capture agent has done meanwhile. -/
structure Scanned (s : State) (n : Nat) (t : State) : Prop where
  inv : t.Inv
  trace : t.outTrace = s.outTrace ++ s.scanEvents n
  frame : (t.withScanOf s).withCaptureOf s = s
  point : t.dpPosition = s.dpPosition
  sequencer : if n < s.scanStepsLeft then t.phase = .scan ∧ t.scanStepsLeft + n = s.scanStepsLeft
    else t.phase = .decode

section
variable {s t : State} {n : Nat}

theorem Scanned.record (h : Scanned s n t) : t.record = s.record :=
  (congrArg State.record h.frame :)

theorem Scanned.recUnit (h : Scanned s n t) : t.recUnit = s.recUnit :=
  (congrArg State.recUnit h.frame :)

theorem Scanned.fault (h : Scanned s n t) : t.fault = s.fault :=
  (congrArg State.fault h.frame :)

theorem Scanned.hookBlocked (h : Scanned s n t) : t.hookBlocked = s.hookBlocked :=
  (congrArg State.hookBlocked h.frame :)

theorem Scanned.board (h : Scanned s n t) : t.board = s.board :=
  (congrArg State.board h.frame :)

theorem Scanned.positionWord (h : Scanned s n t) (p : Nat) :
    t.positionWord p = s.positionWord p := by
  rw [State.positionWord, State.positionWord, h.board, h.record, h.point]

theorem Scanned.refl (hs : s.Inv) (hp : s.phase = .scan) : Scanned s 0 s where
  inv := hs
  trace := (List.append_nil _).symm
  frame := rfl
  point := rfl
  sequencer := by
    rw [if_pos (State.scanStepsLeft_pos hs.sequencerInv)]
    exact ⟨hp, rfl⟩

theorem Scanned.scanning (h : Scanned s n t) (hn : n < s.scanStepsLeft) :
    t.phase = .scan ∧ t.scanStepsLeft + n = s.scanStepsLeft := by
  have hsequencer := h.sequencer
  rwa [if_pos hn] at hsequencer

/-- The positions go round, one SCAN_STEP after the other. -/
theorem Scanned.pos (h : Scanned s n t) (hs : s.sequencerInv) (hn : n < s.scanStepsLeft) :
    t.pos.toNat = (s.pos.toNat + n) % 6 := by
  obtain ⟨-, hleft⟩ := h.scanning hn
  obtain ⟨hcyc', hpos', -⟩ := h.inv.sequencerInv
  obtain ⟨hcyc, hpos, -⟩ := hs
  rw [State.scanStepsLeft, State.scanStepsLeft] at hleft
  omega

/-- When no SCAN_STEP is left the main agent stands at the next DECODE_PHASE. -/
theorem Scanned.passed (h : Scanned s n t) (hn : s.scanStepsLeft ≤ n) :
    t.phase = .decode ∧ t.cyc = 0 ∧ t.pos = 0 := by
  have hphase := h.sequencer
  rw [if_neg (by omega)] at hphase
  obtain ⟨-, -, hstart⟩ := h.inv.sequencerInv
  exact ⟨hphase, hstart hphase⟩

theorem State.dpPosition_congr (hboard : t.board = s.board) (hrecUnit : t.recUnit = s.recUnit)
    (hbits : s.board.unitSrc = .latched ∨ t.bits = s.bits) : t.dpPosition = s.dpPosition := by
  have hunit : t.unitNow = s.unitNow := by
    rw [State.unitNow, State.unitNow, hboard, hrecUnit]
    rcases hbits with hlatched | hbits
    · rw [hlatched]
    · rw [hbits]
  rw [State.dpPosition, State.dpPosition, hunit, hboard]

/-- One more SCAN_STEP of the pass. -/
theorem Scanned.exec_main (h : Scanned s n t) (hs : s.Inv) (hf : s.fault = none)
    (hb : s.hookBlocked = false) (hn : n < s.scanStepsLeft) :
    ∃ u, exec .main t = .next u ∧ Scanned s (n + 1) u := by
  obtain ⟨hp, hleft⟩ := h.scanning hn
  have hexec := exec_main_of_scan_inv h.inv (h.fault.trans hf) (h.hookBlocked.trans hb) hp
  have hframe : (t.emitWord (t.positionWord t.pos.toNat)).advance.withScanOf t = t :=
    State.advance_withScanOf _ t
  have hadvance := State.advance_scanStepsLeft (s := t.emitWord (t.positionWord t.pos.toNat))
    h.inv.sequencerInv hp
  have hkept : (t.emitWord (t.positionWord t.pos.toNat)).scanStepsLeft = t.scanStepsLeft := rfl
  refine ⟨_, hexec, exec_inv h.inv hexec, ?trace, ?frame, ?point, ?sequencer⟩
  case trace =>
    rw [State.advance_emitWord_outTrace, h.trace, h.positionWord, h.pos hs.sequencerInv hn,
      State.scanEvents_succ, List.append_assoc]
  case frame =>
    exact (congrArg (fun u => (u.withScanOf s).withCaptureOf s) hframe :).trans h.frame
  case point =>
    refine (State.dpPosition_congr ?_ ?_ (.inr ?_)).trans h.point
    · exact (congrArg State.board hframe :)
    · exact (congrArg State.recUnit hframe :)
    · exact (congrArg State.bits hframe :)
  case sequencer =>
    rw [hkept] at hadvance
    split at hadvance
    · rw [if_neg (by omega)]
      exact hadvance
    · obtain ⟨hscan, hnext⟩ := hadvance
      rw [if_pos (by omega)]
      exact ⟨hscan, by omega⟩

/-- With the unit latched a capture operation changes nothing of what the pass shows. -/
theorem Scanned.exec_capture (h : Scanned s n t) (hlatched : s.board.unitSrc = .latched)
    {i : Instr} (hi : isCapture i = true) : ∃ u, exec i t = .next u ∧ Scanned s n u := by
  obtain ⟨u, hexec⟩ := everyOperationAnswersANextState i t
  obtain ⟨hframe, hinv⟩ := exec_capture_of_inv hi h.inv hexec
  have htrace : u.outTrace = t.outTrace := (congrArg State.outTrace hframe :)
  have hphase : u.phase = t.phase := (congrArg State.phase hframe :)
  have hleft : u.scanStepsLeft = t.scanStepsLeft := (congrArg State.scanStepsLeft hframe :)
  refine ⟨u, hexec, hinv, ?trace, ?frame, ?point, ?sequencer⟩
  case trace => rw [htrace, h.trace]
  case frame =>
    exact (congrArg (fun u => (u.withScanOf s).withCaptureOf s) hframe :).trans h.frame
  case point =>
    refine (State.dpPosition_congr ?_ ?_ (.inl ?_)).trans h.point
    · exact (congrArg State.board hframe :)
    · exact (congrArg State.recUnit hframe :)
    · rw [h.board, hlatched]
  case sequencer =>
    rw [hphase, hleft]
    exact h.sequencer

end

theorem mainCount_append (is js : List Instr) :
    mainCount (is ++ js) = mainCount is + mainCount js := by
  induction is with
  | nil => exact (Nat.zero_add _).symm
  | cons i is ih =>
    rw [List.cons_append, mainCount, mainCount, ih]
    omega

theorem mainCount_replicate (n : Nat) : mainCount (List.replicate n .main) = n := by
  induction n with
  | zero => rfl
  | succ n ih => rw [List.replicate_succ, mainCount, ih, if_pos rfl]

theorem mainCount_of_isCapture {i : Instr} (hi : isCapture i = true) : mainCount [i] = 0 := by
  cases i with
  | main => cases hi
  | _ => rfl

/-- A run of MAIN and capture operations that stays within the pass: with the unit latched any
capture operations, with the live unit none. -/
theorem execAll_scanned {s : State} (hs : s.Good) (hb : s.hookBlocked = false)
    (hp : s.phase = .scan) {is : List Instr}
    (hops : ∀ i ∈ is, i = .main ∨ (s.board.unitSrc = .latched ∧ isCapture i = true))
    (hcount : mainCount is ≤ s.scanStepsLeft) :
    ∃ t, execAll is s = .next t ∧ Scanned s (mainCount is) t := by
  obtain ⟨hinv, hf⟩ := hs
  induction is using List.reverseRecOn with
  | nil => exact ⟨s, rfl, .refl hinv hp⟩
  | append_singleton is i ih =>
    obtain ⟨hmem, hlast⟩ := List.forall_mem_append.1 hops
    rw [mainCount_append] at hcount ⊢
    obtain ⟨t, hrun, ht⟩ := ih hmem (by omega)
    have hstep : ∃ u, exec i t = .next u ∧ Scanned s (mainCount is + mainCount [i]) u := by
      obtain rfl | ⟨hlatched, hcapture⟩ := hlast i List.mem_cons_self
      · have hone : mainCount [.main] = 1 := rfl
        exact ht.exec_main hinv hf hb (by omega)
      · rw [mainCount_of_isCapture hcapture, Nat.add_zero]
        exact ht.exec_capture hlatched hcapture
    obtain ⟨u, hexec, hu⟩ := hstep
    exact ⟨u, (execAll_append_of_next hrun [i]).trans (execAll_cons_of_next hexec []), hu⟩

/-- MAIN alone, either way the unit is taken. -/
theorem execAll_mains_scanned {s : State} (hs : s.Good) (hb : s.hookBlocked = false)
    (hp : s.phase = .scan) {n : Nat} (hn : n ≤ s.scanStepsLeft) :
    ∃ t, execAll (List.replicate n .main) s = .next t ∧ Scanned s n t := by
  have hrun := execAll_scanned hs hb hp (is := List.replicate n .main)
    (fun i hi => .inl (List.eq_of_mem_replicate hi)) (by rwa [mainCount_replicate])
  rwa [mainCount_replicate] at hrun

/-- Settles O38: a cycle count of at most 430 and a position of at most 5 leave at most 2586
SCAN_STEPs. -/
theorem decodeComesWithinOnePass : Obligations.DecodeComesWithinOnePass := by
  intro s hs hb hp
  obtain ⟨t, hrun, ht⟩ := execAll_mains_scanned hs hb hp le_rfl
  obtain ⟨hphase, -⟩ := ht.passed le_rfl
  obtain ⟨-, hf⟩ := hs
  refine ⟨?_, t, hrun, hphase, ht.fault.trans hf, ht.record, ht.recUnit⟩
  rw [State.scanStepsLeft]
  omega

theorem execAll_mains_withMainOf (n : Nat) {s t : State}
    (h : execAll (List.replicate n .main) s = .next t) : t.withMainOf s = s := by
  induction n generalizing s with
  | zero =>
    cases h
    rfl
  | succ n ih =>
    have hrest : execAll (List.replicate n .main) (mainStep s) = .next t := h
    exact (congrArg (State.withMainOf · s) (ih hrest) :).trans (mainStep_withMainOf s)

/-- What MAIN wrote, and beside the capture state only the scan elements, is the scan elements. -/
theorem State.withScanOf_of_withMainOf {s t : State} (hmain : t.withMainOf s = s)
    (hscan : (t.withScanOf s).withCaptureOf s = s) : t.withScanOf s = s :=
  calc t.withScanOf s = ((t.withScanOf s).withCaptureOf s).withCaptureOf (t.withMainOf s) := rfl
    _ = s := by
      rw [hscan, hmain]
      rfl

/-- Settles O31: the six words of the cycle, and where the sequencer stands after them. -/
theorem refreshCycleShowsTheSixDigits : Obligations.RefreshCycleShowsTheSixDigits := by
  intro s hs hb hp hpos
  have hleft := State.scanStepsLeft_of_pos_zero hpos
  obtain ⟨t, hrun, ht⟩ := execAll_mains_scanned hs hb hp (n := 6) (by omega)
  obtain ⟨hinv, -⟩ := hs
  have hframe := State.withScanOf_of_withMainOf (execAll_mains_withMainOf 6 hrun) ht.frame
  have htrace : t.outTrace = s.outTrace ++ s.cycleEvents := by
    rw [ht.trace]
    exact congrArg _ (State.scanEvents_add_six hpos 0)
  by_cases hlast : s.cyc.toNat < 430
  · obtain ⟨hphase, hnext⟩ := ht.scanning (by omega)
    obtain ⟨hcyc, -, -⟩ := ht.inv.sequencerInv
    have hzero : t.pos = 0 := BitVec.eq_of_toNat_eq (by
      rw [ht.pos hinv.sequencerInv (by omega), hpos]
      rfl)
    refine ⟨t, hrun, htrace, hzero, ?_, hframe⟩
    rw [State.scanStepsLeft_of_pos_zero hzero, hleft] at hnext
    rw [if_pos hlast]
    exact ⟨hphase, by omega⟩
  · obtain ⟨hphase, hcyc, hzero⟩ := ht.passed (by omega)
    refine ⟨t, hrun, htrace, hzero, ?_, hframe⟩
    rw [if_neg hlast]
    exact ⟨hphase, hcyc⟩

/-- Settles O32: the 2586 SCAN_STEPs of a pass are 431 refresh cycles of the same six words. -/
theorem scanPassIsUndisturbedByCapture : Obligations.ScanPassIsUndisturbedByCapture := by
  intro is s hs hb hp hcyc hpos hlatched hops hcount
  have hleft : s.scanStepsLeft = 2586 := by
    rw [State.scanStepsLeft_of_pos_zero hpos, hcyc]
    rfl
  obtain ⟨t, hrun, ht⟩ := execAll_scanned hs hb hp
    (fun i hi => (hops i hi).imp_right fun hcapture => ⟨hlatched, hcapture⟩) (by omega)
  rw [hcount] at ht
  obtain ⟨hphase, hcyc', hpos'⟩ := ht.passed hleft.le
  obtain ⟨-, hf⟩ := hs
  refine ⟨t, hrun, ?_, hphase, hcyc', hpos', ht.record, ht.recUnit, ht.fault.trans hf⟩
  rw [ht.trace]
  exact congrArg _ (State.scanEvents_six_mul hpos 431)

/-! ### What a SCAN_STEP reads (R153) -/

section
variable (s u : State)

theorem State.scanWord_withCaptureOf (hlatched : s.board.unitSrc = .latched) :
    (s.withCaptureOf u).scanWord = s.scanWord := by
  have hpoint : (s.withCaptureOf u).dpPosition = s.dpPosition :=
    State.dpPosition_congr rfl rfl (.inl hlatched)
  rw [State.scanWord, hpoint]
  rfl

theorem State.advance_withCaptureOf :
    (s.withCaptureOf u).advance = s.advance.withCaptureOf u := by
  rw [State.advance, State.advance, apply_ite (State.withCaptureOf · u),
    apply_ite (State.withCaptureOf · u)]
  rfl

theorem scanStep_withCaptureOf (hlatched : s.board.unitSrc = .latched) :
    scanStep (s.withCaptureOf u) = (scanStep s).map (State.withCaptureOf · u) := by
  have hword := s.scanWord_withCaptureOf u hlatched
  obtain ⟨w, hw, h⟩ | ⟨f, hw, h⟩ := scanStep_cases s <;> rw [h] <;> rw [hw] at hword
  · rw [scanStep_of_word hword]
    exact congrArg Except.ok ((s.emitWord w).advance_withCaptureOf u)
  · exact scanStep_of_error hword

theorem State.raise_withCaptureOf (f : Fault) :
    (s.withCaptureOf u).raise f = (s.raise f).withCaptureOf u := by
  rw [State.raise_eq, State.raise_eq]
  rfl

theorem mainStep_withCaptureOf_of_scan (hp : s.phase = .scan)
    (hlatched : s.board.unitSrc = .latched) :
    mainStep (s.withCaptureOf u) = (mainStep s).withCaptureOf u := by
  have he : (s.withCaptureOf u).mainEnabled = s.mainEnabled := rfl
  have hp' : (s.withCaptureOf u).phase = .scan := hp
  rw [mainStep, mainStep, he, mainArm, mainArm, hp, hp', apply_ite (State.withCaptureOf · u)]
  simp only [scanStep_withCaptureOf s u hlatched,
    State.settle_map (f := (State.withCaptureOf · u)) (s.raise_withCaptureOf u)]

end

/-- Settles O35: MAIN in phase SCAN commutes with any change of the capture state. -/
theorem displayIgnoresCaptureState : Obligations.DisplayIgnoresCaptureState := by
  intro s s' hp hlatched hagree
  have hs' : s' = s.withCaptureOf s' := by
    rw [← hagree]
    rfl
  refine ⟨mainStep s, mainStep s', exec_main s, exec_main s', ?_⟩
  have hmain := mainStep_withCaptureOf_of_scan s s' hp hlatched
  rw [← hs'] at hmain
  rw [hmain]
  rfl

/-! ### A held main agent (R190) -/

/-- Beside the fault mark a capture operation writes nothing the main agent reads or shows. -/
theorem exec_capture_frame {i : Instr} (hi : isCapture i = true) (s : State) :
    ∃ t, exec i s = .next t ∧ { t with fault := s.fault }.withCaptureOf s = s := by
  obtain ⟨t, hexec, hframe | ⟨-, f, rfl⟩⟩ := exec_capture_cases hi s
  · have hf : t.fault = s.fault := (congrArg State.fault hframe :)
    rw [← hf]
    exact ⟨t, hexec, hframe⟩
  · refine ⟨_, hexec, ?_⟩
    rw [State.raise_eq]
    rfl

/-- Settles O49, operation by operation: a MAIN changes nothing, and a capture operation keeps the
hold with all else. -/
theorem heldMainAgentKeepsTheDisplay : Obligations.HeldMainAgentKeepsTheDisplay := by
  intro is
  induction is with
  | nil => exact fun s _ _ => ⟨s, rfl, rfl, rfl⟩
  | cons i is ih =>
    intro s hb hops
    obtain ⟨hi, his⟩ := List.forall_mem_cons.1 hops
    cases hcapture : isCapture i with
    | true =>
      obtain ⟨t, hexec, hframe⟩ := exec_capture_frame hcapture s
      have hb' : t.hookBlocked = true := (congrArg State.hookBlocked hframe :).trans hb
      obtain ⟨u, hrun, hframe', hfilter⟩ := ih t hb' his
      refine ⟨u, (execAll_cons_of_next hexec is).trans hrun, ?_, ?_⟩
      · exact
          (congrArg (fun v => { v with fault := s.fault }.withCaptureOf s) hframe' :).trans hframe
      · rw [List.filter_cons_of_pos hcapture, execAll_cons_of_next hexec, hfilter]
    | false =>
      have hexec : exec i s = .next s := by
        cases i with
        | main => exact stoppedMainAgentTakesNoStep s (.inr hb)
        | reset => exact absurd rfl hi
        | _ => cases hcapture
      obtain ⟨u, hrun, hframe, hfilter⟩ := ih s hb his
      refine ⟨u, (execAll_cons_of_next hexec is).trans hrun, hframe, ?_⟩
      rw [List.filter_cons_of_neg (by simp [hcapture]), hfilter]

end Sys2Proof.Machine
end
